-- ==== Sys2Proof/Word.lean ====
section
/-! DEFINITION. The bit-vector types of the PMD-DTU block (spec/00_scope.md R6, spec/30_encoding.md
R60, R61). Everything the spec treats as bits and nothing else. -/

namespace Sys2Proof

/-- A register, a bus data word, a duty, a rate, a dead time: `REG_BITS = 32` (R6, R12). -/
abbrev Word := BitVec 32

/-- A byte offset into the register window, 8 bits (R29, R40, R60). -/
abbrev Offset := BitVec 8

/-- A bus transaction word `T`, 43 bits (R61). -/
abbrev TxWord := BitVec 43

/-- The carrier phase accumulator, `PHASE_BITS = 24` (R6, R22). -/
abbrev PhaseAcc := BitVec 24

/-- A carrier value, 15 bits (R136). -/
abbrev CarrierValue := BitVec 15

/-- A two-bit code field: `CAR[x]`, `DSYNCS`, `SYNCS`, `PSYNCS`, `RESP[p]` (R16, R17, R18). -/
abbrev Code := BitVec 2

/-- The trip-count filter and its counter, `FILT_BITS = 4` (R6, R18, R25). -/
abbrev FilterCount := BitVec 4

/-- The three synchronisation inputs; bit `i - 1` is `sync_in[i]`, `i = 1, 2, 3` (R27). -/
abbrev SyncLevels := BitVec 3

end Sys2Proof
end

