-- ==== Sys2Proof/Syntax.lean ====
section
/-! DEFINITION. The steps of the machine as syntax (spec/00_scope.md R4, spec/30_encoding.md R60, R62,
R72): one constructor of `Instr` per row of spec/opcode_table.json, and the requests through which the
bus master, the clock, the reset line and the platform make a step happen (R3). -/

namespace Sys2Proof

/-- A phase, index U=0, V=1, W=2 (spec/00_scope.md section 6). -/
inductive Phase
  | u | v | w
  deriving DecidableEq, Repr

/-- A protection path, index EMG=0, OVV=1 (spec/00_scope.md section 6). -/
inductive Path
  | emg | ovv
  deriving DecidableEq, Repr

/-- The fifteen registers of the window, in the order of their offsets (R62). -/
inductive Reg
  | en | pom | wfc | opl | dtr | rate | cmpu | cmpv | cmpw
  | emgcr | ovvcr | emgrel | ovvrel | emgsta | ovvsta
  deriving DecidableEq, Repr

/-- The error codes of a bus operation (R171). -/
inductive BusError
  /-- An aligned word access to an offset `0x3C..0xFC` (R172). -/
  | unmapped
  /-- An access of a size other than 4 bytes or at a misaligned offset (R173). -/
  | badAccess
  /-- A write to POM, WFC, OPL or DTR while `MDEN = 1` (R174). -/
  | locked
  deriving DecidableEq, Repr

/-- The steps of the machine: fifteen register writes, fifteen register reads, the clock edge and the
reset (R4, R72). A write carries its 32-bit data; `TICK` carries the input levels sampled at the edge
(R27, R150); a read and `RESET` carry nothing. -/
inductive Instr
  | wrEn (data : Word)
  | rdEn
  | wrPom (data : Word)
  | rdPom
  | wrWfc (data : Word)
  | rdWfc
  | wrOpl (data : Word)
  | rdOpl
  | wrDtr (data : Word)
  | rdDtr
  | wrRate (data : Word)
  | rdRate
  | wrCmpu (data : Word)
  | rdCmpu
  | wrCmpv (data : Word)
  | rdCmpv
  | wrCmpw (data : Word)
  | rdCmpw
  | wrEmgcr (data : Word)
  | rdEmgcr
  | wrOvvcr (data : Word)
  | rdOvvcr
  | wrEmgrel (data : Word)
  | rdEmgrel
  | wrOvvrel (data : Word)
  | rdOvvrel
  | wrEmgsta (data : Word)
  | rdEmgsta
  | wrOvvsta (data : Word)
  | rdOvvsta
  | tick (emgIn ovvIn : Bool) (syncIn : SyncLevels)
  | reset
  deriving DecidableEq, Repr

/-- The four fields of a bus operation (R60): the size code `sz`, the direction `we`, the byte offset
and the data (which a read ignores). -/
structure BusOp where
  sz : BitVec 2
  we : Bool
  off : Offset
  data : Word
  deriving DecidableEq, Repr

/-- What one of the agents of R3 asks of the machine next. `clkGate` is no step of the block: it is the
platform opening or closing the clock gate of the instance (R6 `CLK_GATE`, R52; notes/assumptions/6.md,
DESIGN CHOICE, safe). -/
inductive Request
  /-- The bus master drives a transaction word (R60, R61). -/
  | bus (t : TxWord)
  /-- A rising edge of the peripheral clock with the input levels sampled at it (R4, R150). -/
  | tick (emgIn ovvIn : Bool) (syncIn : SyncLevels)
  /-- The reset line of the instance, power-on included (R190). -/
  | reset
  /-- The platform sets the clock gate: `true` opens it, `false` closes it (R52). -/
  | clkGate (isOpen : Bool)
  deriving DecidableEq, Repr, Inhabited

end Sys2Proof
end

