-- ==== Sys2Proof/Config.lean ====
section
/-! DEFINITION. The implementation parameters of spec/00_scope.md R6 and the free values of the model.
A parameter with a value has the value R6 gives it; a parameter R6 calls OPEN, and every free value, is
an opaque constant with no body: no proof can know what it is, so a statement holds for every value. -/

namespace Sys2Proof.Config

/-- `PHASE_BITS`, the width of the carrier phase accumulator (R6). -/
abbrev phaseBits : Nat := 24

/-- `DUTY_FULL`, the duty value that encodes 100 % (R6, R138). -/
def dutyFull : Word := 0x8000

/-- `KEY1`, the first release key (R6, R69). -/
def key1 : Word := 0x0000005A

/-- `KEY2`, the second release key (R6, R69). -/
def key2 : Word := 0x000000A5

/-- `REG_BITS`, the width of every register and of every bus access (R6). -/
abbrev regBits : Nat := 32

/-- `FILT_BITS`, the width of the trip-count filter field (R6). -/
abbrev filtBits : Nat := 4

/-- `WINDOW`, the size of the register window in bytes (R6, R29). -/
abbrev window : Nat := 256

/-- `LATCH_RST[p]`, the value of each trip latch after `RESET`: OPEN, each in 0, 1 (R6, R30, R193;
notes/assumptions/5.md). -/
opaque latchRst : Path → Bool

/-- Whether the platform's clock gate stands open at power-on: OPEN platform state (R6 `CLK_GATE`, R52;
notes/assumptions/6.md). -/
opaque clkGateAtPowerOn : Bool

/-- The unspecified word the `n`-th draw returns for a read made while the clock gate is closed (R52, U5
of spec/93_implementation_defined.md; notes/assumptions/7.md). -/
opaque gatedRead : Nat → Word

/-- The request the agents make at the `n`-th draw when nothing is pending: any interleaving of steps is
a legal execution (R3, R4; notes/assumptions/3.md). -/
opaque environment : Nat → Request

/-- `N_CH`, the number of channel instances: OPEN (R6, R187). -/
opaque numChannels : Nat

/-- `BASE[id]`, the bus address of the register window of instance `id`: OPEN (R6, R40). -/
opaque base : Nat → Nat

/-- `F_SYS`, the frequency of the peripheral clock in Hz: OPEN; no state rule reads it (R6, R134). -/
opaque fSys : Nat

end Sys2Proof.Config
end

