-- ==== Sys2Proof/WellFormed.lean ====
section
/-! DEFINITION. What the syntax may hold (spec/30_encoding.md R60, R61). -/

namespace Sys2Proof

/-- The size codes that name a size: `0b00` one byte, `0b01` two bytes, `0b10` four bytes; `0b11` is not
a size (R61). A bus operation with another code is still answered, with `BADACCESS` (R74). -/
abbrev BusOp.wf (op : BusOp) : Prop := op.sz ≠ 0b11#2

/-- A number is a transaction word when it has no bit above bit 42 (R61: `T` is 43 bits). -/
abbrev IsTxWord (w : Nat) : Prop := w < 2 ^ 43

/-- Every operand of an instruction is a bit vector of exactly the width the spec gives it (R60: `data`
32 bits; R27: two trip levels and three sync levels) and no field has an illegal value (R73), so an
instruction cannot be ill-formed: the check is true of each, constructor by constructor. -/
def Instr.wf : Instr → Bool
  | .wrEn _ => true
  | .rdEn => true
  | .wrPom _ => true
  | .rdPom => true
  | .wrWfc _ => true
  | .rdWfc => true
  | .wrOpl _ => true
  | .rdOpl => true
  | .wrDtr _ => true
  | .rdDtr => true
  | .wrRate _ => true
  | .rdRate => true
  | .wrCmpu _ => true
  | .rdCmpu => true
  | .wrCmpv _ => true
  | .rdCmpv => true
  | .wrCmpw _ => true
  | .rdCmpw => true
  | .wrEmgcr _ => true
  | .rdEmgcr => true
  | .wrOvvcr _ => true
  | .rdOvvcr => true
  | .wrEmgrel _ => true
  | .rdEmgrel => true
  | .wrOvvrel _ => true
  | .rdOvvrel => true
  | .wrEmgsta _ => true
  | .rdEmgsta => true
  | .wrOvvsta _ => true
  | .rdOvvsta => true
  | .tick _ _ _ => true
  | .reset => true

end Sys2Proof
end

