-- ==== Sys2Proof/Decode.lean ====
section
/-! DEFINITION. Decoding a bus transaction word (spec/30_encoding.md R61, R62, R72), total on every word
and rejecting by the name of the bus error, and the encoder written from the same table. `TICK` and
`RESET` are steps that no bus word encodes (R60). -/

namespace Sys2Proof

/-- The fields of a transaction word: `sz` bits 42:41, `we` bit 40, `off` bits 39:32, `data` bits 31:0
(R61). -/
def BusOp.ofWord (t : TxWord) : BusOp where
  sz := t.extractLsb' 41 2
  we := t[40]
  off := t.extractLsb' 32 8
  data := t.extractLsb' 0 32

/-- The transaction word of a bus operation (R61). -/
def BusOp.toWord (op : BusOp) : TxWord :=
  op.sz ++ BitVec.ofBool op.we ++ op.off ++ op.data

/-- The byte offset of a register in the window (R62). -/
def Reg.offset : Reg → Offset
  | .en => 0x00
  | .pom => 0x04
  | .wfc => 0x08
  | .opl => 0x0C
  | .dtr => 0x10
  | .rate => 0x14
  | .cmpu => 0x18
  | .cmpv => 0x1C
  | .cmpw => 0x20
  | .emgcr => 0x24
  | .ovvcr => 0x28
  | .emgrel => 0x2C
  | .ovvrel => 0x30
  | .emgsta => 0x34
  | .ovvsta => 0x38

/-- The registers in the order of their offsets (R62). -/
def Reg.all : List Reg :=
  [.en, .pom, .wfc, .opl, .dtr, .rate, .cmpu, .cmpv, .cmpw,
   .emgcr, .ovvcr, .emgrel, .ovvrel, .emgsta, .ovvsta]

/-- The register that stands at an offset, if any (R62). -/
def Reg.ofOffset (off : Offset) : Option Reg :=
  Reg.all.find? (fun r => r.offset == off)

/-- The operation `WR.<REG>` (R72). -/
def Reg.writeInstr (r : Reg) (data : Word) : Instr :=
  match r with
  | .en => .wrEn data
  | .pom => .wrPom data
  | .wfc => .wrWfc data
  | .opl => .wrOpl data
  | .dtr => .wrDtr data
  | .rate => .wrRate data
  | .cmpu => .wrCmpu data
  | .cmpv => .wrCmpv data
  | .cmpw => .wrCmpw data
  | .emgcr => .wrEmgcr data
  | .ovvcr => .wrOvvcr data
  | .emgrel => .wrEmgrel data
  | .ovvrel => .wrOvvrel data
  | .emgsta => .wrEmgsta data
  | .ovvsta => .wrOvvsta data

/-- The operation `RD.<REG>` (R72). -/
def Reg.readInstr : Reg → Instr
  | .en => .rdEn
  | .pom => .rdPom
  | .wfc => .rdWfc
  | .opl => .rdOpl
  | .dtr => .rdDtr
  | .rate => .rdRate
  | .cmpu => .rdCmpu
  | .cmpv => .rdCmpv
  | .cmpw => .rdCmpw
  | .emgcr => .rdEmgcr
  | .ovvcr => .rdOvvcr
  | .emgrel => .rdEmgrel
  | .ovvrel => .rdOvvrel
  | .emgsta => .rdEmgsta
  | .ovvsta => .rdOvvsta

/-- Steps 1 and 2 of R72 and the choice of the operation. Step 3, the configuration lock, looks at
`MDEN` and so belongs to the four locked writes' meanings. -/
def decodeBus (op : BusOp) : Except BusError Instr :=
  if op.sz ≠ 0b10#2 ∨ op.off.extractLsb' 0 2 ≠ 0#2 then .error .badAccess
  else if 0x38#8 < op.off then .error .unmapped
  else match Reg.ofOffset op.off with
    | none => .error .unmapped
    | some r => .ok (if op.we then r.writeInstr op.data else r.readInstr)

/-- The operation a transaction word stands for, or the bus error it is answered with (R61, R72, R74). -/
def decode (t : TxWord) : Except BusError Instr :=
  decodeBus (BusOp.ofWord t)

/-- The step a request asks for. A word that is no operation on a register (R74) and a move of the clock
gate (R52) ask for no step of R4. -/
def decodeRequest : Request → Option Instr
  | .bus t => (decode t).toOption
  | .tick emgIn ovvIn syncIn => some (.tick emgIn ovvIn syncIn)
  | .reset => some .reset
  | .clkGate _ => none

/-- A word access of the named direction to a register (R61: `sz = 0b10`). -/
def Reg.busOp (r : Reg) (we : Bool) (data : Word) : BusOp where
  sz := 0b10
  we := we
  off := r.offset
  data := data

/-- The request that makes a step happen: the transaction word of a bus operation (R61, R62; the data of a
read, which is ignored, written as 0), the clock edge with its levels (R150), the reset line (R190). -/
def encode : Instr → Request
  | .wrEn data => .bus (Reg.busOp .en true data).toWord
  | .rdEn => .bus (Reg.busOp .en false 0).toWord
  | .wrPom data => .bus (Reg.busOp .pom true data).toWord
  | .rdPom => .bus (Reg.busOp .pom false 0).toWord
  | .wrWfc data => .bus (Reg.busOp .wfc true data).toWord
  | .rdWfc => .bus (Reg.busOp .wfc false 0).toWord
  | .wrOpl data => .bus (Reg.busOp .opl true data).toWord
  | .rdOpl => .bus (Reg.busOp .opl false 0).toWord
  | .wrDtr data => .bus (Reg.busOp .dtr true data).toWord
  | .rdDtr => .bus (Reg.busOp .dtr false 0).toWord
  | .wrRate data => .bus (Reg.busOp .rate true data).toWord
  | .rdRate => .bus (Reg.busOp .rate false 0).toWord
  | .wrCmpu data => .bus (Reg.busOp .cmpu true data).toWord
  | .rdCmpu => .bus (Reg.busOp .cmpu false 0).toWord
  | .wrCmpv data => .bus (Reg.busOp .cmpv true data).toWord
  | .rdCmpv => .bus (Reg.busOp .cmpv false 0).toWord
  | .wrCmpw data => .bus (Reg.busOp .cmpw true data).toWord
  | .rdCmpw => .bus (Reg.busOp .cmpw false 0).toWord
  | .wrEmgcr data => .bus (Reg.busOp .emgcr true data).toWord
  | .rdEmgcr => .bus (Reg.busOp .emgcr false 0).toWord
  | .wrOvvcr data => .bus (Reg.busOp .ovvcr true data).toWord
  | .rdOvvcr => .bus (Reg.busOp .ovvcr false 0).toWord
  | .wrEmgrel data => .bus (Reg.busOp .emgrel true data).toWord
  | .rdEmgrel => .bus (Reg.busOp .emgrel false 0).toWord
  | .wrOvvrel data => .bus (Reg.busOp .ovvrel true data).toWord
  | .rdOvvrel => .bus (Reg.busOp .ovvrel false 0).toWord
  | .wrEmgsta data => .bus (Reg.busOp .emgsta true data).toWord
  | .rdEmgsta => .bus (Reg.busOp .emgsta false 0).toWord
  | .wrOvvsta data => .bus (Reg.busOp .ovvsta true data).toWord
  | .rdOvvsta => .bus (Reg.busOp .ovvsta false 0).toWord
  | .tick emgIn ovvIn syncIn => .tick emgIn ovvIn syncIn
  | .reset => .reset

/-- The transaction word of a bus operation; none for `TICK` and `RESET`, which no bus word encodes
(R60). -/
def encodeWord (i : Instr) : Option TxWord :=
  match encode i with
  | .bus t => some t
  | .tick _ _ _ => none
  | .reset => none
  | .clkGate _ => none

/-- The transaction word the low `nbits` bits of `w` stand for: bit `i` of the number is bit `i` of `T`,
every bit above `nbits` is 0, and the number's bits above bit 42 are no part of `T`
(notes/assumptions/4.md, DESIGN CHOICE). -/
def tableWord (nbits w : Nat) : TxWord :=
  BitVec.ofNat 43 (w % 2 ^ nbits)

/-- The instruction the decoder reads from a word numbered as spec/opcode_table.json numbers it (R61);
none where the decoder rejects it. -/
def decodeTableWord (nbits w : Nat) : Option Instr :=
  (decode (tableWord nbits w)).toOption

end Sys2Proof
end

