-- ==== Sys2Proof/Machine/State.lean ====
section
/-! DEFINITION. The state of one channel instance (spec/10_state.md R10), the platform state and the
pending requests beside it, the reasons a step can stop, and the machine right after reset
(spec/10_state.md R30, spec/70_reset_and_hazards.md R190). -/

namespace Sys2Proof.Machine

/-- One value per phase: an element the spec writes `X[U]`, `X[V]`, `X[W]`. -/
structure PerPhase (α : Type) where
  u : α
  v : α
  w : α
  deriving DecidableEq, Repr

/-- One value per protection path: an element the spec writes `X[EMG]`, `X[OVV]`. -/
structure PerPath (α : Type) where
  emg : α
  ovv : α
  deriving DecidableEq, Repr

/-- The state of a release-key sequencer: `IDLE` no key accepted, `K1` the last write to the path's REL
register was `KEY1` (R24). -/
inductive KeyState
  | idle | k1
  deriving DecidableEq, Repr

/-- CONFIG mode is `MDEN = 0`, RUN mode is `MDEN = 1` (R184). -/
inductive Mode
  | config | run
  deriving DecidableEq, Repr

/-- The states of a protection path, row by row of R100. They overlap: after a `RESET` with
`LATCH_RST[p] = 0` a path is unconfigured and armed, and a latched, disarmed path is tripped too. -/
inductive PathState
  /-- "Unconfigured": the reset settings, with the latch at `LATCH_RST[p]`. -/
  | unconfigured
  /-- "Armed": `PEN = 1`, `LATCH = 0`. -/
  | armed
  /-- "Tripped": `LATCH = 1`, whatever `PEN` is. -/
  | tripped
  /-- "Released", also "Released/Armed-disabled": `PEN = 0`, `LATCH = 0`. -/
  | released
  /-- The row without a name in the source, "latched and disarmed": `PEN = 0`, `LATCH = 1`. -/
  | latchedDisarmed
  deriving DecidableEq, Repr

/-- The six output signals (R28). -/
structure Pins where
  uh : Bool
  vh : Bool
  wh : Bool
  ul : Bool
  vl : Bool
  wl : Bool
  deriving DecidableEq, Repr

/-- What the bus master sees of the step just made (R4, R170). The block stores none of it. -/
inductive Response
  /-- The step was no bus operation. -/
  | none
  /-- `OKAY` to a write. -/
  | okay
  /-- `OKAY` to a read, with the word it returns. -/
  | okayData (value : Word)
  /-- `ERROR(code)`; a refused read returns no data (R170). -/
  | error (code : BusError)
  deriving DecidableEq, Repr

/-- The complete state of one channel instance, element by element as R10 lists it. -/
structure Channel where
  /-- EN[0], master enable. -/
  mden : Bool
  /-- POM[0], source of the upper pin group: `false` plain, `true` complementary. -/
  upmd : Bool
  /-- POM[1], source of the lower pin group. -/
  lomd : Bool
  /-- WFC[5:0], carrier shape of each phase. -/
  car : PerPhase Code
  /-- WFC[6], duty-timing mode: `false` common, `true` independent per phase. -/
  dtymd : Bool
  /-- WFC[7], dead-time-correction enable. -/
  dtcren : Bool
  /-- WFC[9:8], update timing of the duty buffers. -/
  dsyncs : Code
  /-- OPL[0], polarity of the upper pin group: `true` active-high. -/
  polh : Bool
  /-- OPL[1], polarity of the lower pin group. -/
  poll : Bool
  /-- OPL[3:2], synchronisation source of the protection-output buffer. -/
  syncs : Code
  /-- OPL[5:4], update timing of the protection-output buffer. -/
  psyncs : Code
  /-- DTR[31:0], dead time in ticks. -/
  dtr : Word
  /-- RATE[31:0], carrier rate value. -/
  rate : Word
  /-- CMPU, CMPV, CMPW: the duty-compare buffers. -/
  cmpb : PerPhase Word
  /-- The active duty-compare latches (hidden). -/
  cmpa : PerPhase Word
  /-- EMGCR[0], OVVCR[0]: path enable. -/
  pen : PerPath Bool
  /-- EMGCR[1], OVVCR[1]: trip-input polarity, `true` active-high. -/
  inpol : PerPath Bool
  /-- EMGCR[3:2], OVVCR[3:2]: response mode. -/
  resp : PerPath Code
  /-- EMGCR[7:4], OVVCR[7:4]: trip-count filter. -/
  filt : PerPath FilterCount
  /-- EMGSTA[0], OVVSTA[0]: latched-trip status. -/
  latch : PerPath Bool
  /-- State of the release-key sequencers (hidden). -/
  keyst : PerPath KeyState
  /-- Count of consecutive active samples of each trip input (hidden). -/
  fcnt : PerPath FilterCount
  /-- Protection-output buffer, upper pin group: `true` forces it off (hidden). -/
  pgateU : Bool
  /-- Protection-output buffer, lower pin group (hidden). -/
  pgateL : Bool
  /-- Carrier phase accumulator (hidden). -/
  phase : PhaseAcc
  /-- Stretch counters of the dead-time correction (hidden). -/
  hold : PerPhase Word
  /-- Side each dead-time unit commands: `true` plain, `false` complementary (hidden). -/
  side : PerPhase Bool
  /-- Dead-time down-counters (hidden). -/
  cnt : PerPhase Word
  deriving DecidableEq, Repr

/-- The machine: the channel instance, the clock gate of its platform, the response of the last step, and
the requests the agents have placed. `response`, `pending` and `draws` are the model's own fields
(notes/assumptions/2.md, 9.md, 11.md). -/
structure State where
  /-- The state of the channel instance (R10). -/
  chan : Channel
  /-- `CLK_GATE`, platform state: `true` when the clock of the instance is running (R6, R52). -/
  gateOpen : Bool
  /-- The response of the step just made (R4). -/
  response : Response
  /-- The requests already placed, the next one first. -/
  pending : List Request
  /-- How many free values have been drawn. -/
  draws : Nat
  deriving DecidableEq, Repr

/-- The machine has no fault: every bus operation ends with a response and the machine goes on (R170), and
a `TICK` and a `RESET` cannot fail (R150, R190). Nothing raises this type's reason, because it has none. -/
inductive Fault
  deriving DecidableEq, Repr

/-- The reasons a step is refused. -/
inductive Refusal
  /-- An arm of `exec` whose instruction has no meaning yet; no arm raises it. Safe: the run stops. -/
  | notModelled (mnemonic : String)
  deriving DecidableEq, Repr

/-- The channel instance after a `RESET` step, for given values of `LATCH_RST[EMG]` and `LATCH_RST[OVV]`
(R30, R190). -/
def Channel.reset (latchRst : Path → Bool) : Channel where
  mden := false
  upmd := false
  lomd := true
  car := ⟨0, 0, 0⟩
  dtymd := false
  dtcren := false
  dsyncs := 0
  polh := false
  poll := false
  syncs := 0
  psyncs := 0
  dtr := 0
  rate := 0
  cmpb := ⟨0, 0, 0⟩
  cmpa := ⟨0, 0, 0⟩
  pen := ⟨true, true⟩
  inpol := ⟨false, false⟩
  resp := ⟨0, 0⟩
  filt := ⟨0, 0⟩
  latch := ⟨latchRst .emg, latchRst .ovv⟩
  keyst := ⟨.idle, .idle⟩
  fcnt := ⟨0, 0⟩
  pgateU := true
  pgateL := true
  phase := 0
  hold := ⟨0, 0, 0⟩
  side := ⟨false, false, false⟩
  cnt := ⟨0, 0, 0⟩

/-- The machine at power-on: the channel as R30 leaves it with the platform's `LATCH_RST`, the clock gate
as the platform has it (R52), no step made yet, nothing pending, nothing drawn. -/
def State.reset : State where
  chan := Channel.reset Config.latchRst
  gateOpen := Config.clkGateAtPowerOn
  response := .none
  pending := []
  draws := 0

end Sys2Proof.Machine
end

