-- ==== Sys2Proof/Machine/Ops.lean ====
section
/-! DEFINITION. The shared operations: access to the per-phase and per-path elements, the answers of the
bus (spec/60_exceptions.md R170 to R174, spec/20_memory.md R52), entering RUN mode
(spec/40_waveform_config.md R84), and the release of a trip (spec/41_protection.md R112, R113). -/

namespace Sys2Proof.Machine

/-- The element of phase `x`. -/
def PerPhase.get {α : Type} (m : PerPhase α) (x : Phase) : α :=
  match x with
  | .u => m.u
  | .v => m.v
  | .w => m.w

/-- The elements with that of phase `x` replaced. -/
def PerPhase.set {α : Type} (m : PerPhase α) (x : Phase) (a : α) : PerPhase α :=
  match x with
  | .u => { m with u := a }
  | .v => { m with v := a }
  | .w => { m with w := a }

/-- `for x in {U, V, W}`: the elements computed phase by phase. -/
def PerPhase.tabulate {α : Type} (f : Phase → α) : PerPhase α :=
  ⟨f .u, f .v, f .w⟩

/-- The element of path `p`. -/
def PerPath.get {α : Type} (m : PerPath α) (p : Path) : α :=
  match p with
  | .emg => m.emg
  | .ovv => m.ovv

/-- The elements with that of path `p` replaced. -/
def PerPath.set {α : Type} (m : PerPath α) (p : Path) (a : α) : PerPath α :=
  match p with
  | .emg => { m with emg := a }
  | .ovv => { m with ovv := a }

/-- `for p in {EMG, OVV}`: the elements computed path by path. -/
def PerPath.tabulate {α : Type} (f : Path → α) : PerPath α :=
  ⟨f .emg, f .ovv⟩

/-- The mode of the channel (R184). -/
def Channel.mode (c : Channel) : Mode :=
  if c.mden then .run else .config

/-! ## Steps and their responses -/

/-- A step that is no bus operation leaves the channel `c` and returns no response. -/
def State.quietly (s : State) (c : Channel) : State :=
  { s with chan := c, response := .none }

/-- An accepted write leaves the channel `c` and returns `OKAY` (R80, R170). -/
def State.accepted (s : State) (c : Channel) : State :=
  { s with chan := c, response := .okay }

/-- An accepted read changes no state element and returns `OKAY` with a word (R44, R80). -/
def State.returning (s : State) (value : Word) : State :=
  { s with response := .okayData value }

/-- `raise BusError(code)`: the operation is refused as a whole; every state element stays as it is and the
response is `ERROR(code)`, with no data (R170). The one way the machine takes an error. -/
def raiseBusError (code : BusError) (s : State) : State :=
  { s with response := .error code }

/-- A write while the clock gate is closed is lost: no state changes and the response is `OKAY` (R52). -/
def State.lostWrite (s : State) : State :=
  { s with response := .okay }

/-- A read while the clock gate is closed returns `OKAY` with an unspecified word, a free value, and
changes no state element (R52). -/
def State.gatedRead (s : State) : State :=
  { s with response := .okayData (Config.gatedRead s.draws), draws := s.draws + 1 }

/-- A write to a register outside the configuration lock: `update` is what the write makes of the channel
(R80), unless the clock gate is closed (R52). -/
def busWrite (update : Channel → Channel) (s : State) : State :=
  if s.gateOpen then s.accepted (update s.chan) else s.lostWrite

/-- A write to a locked register: `LOCKED` when `MDEN` is 1 as the step begins (R72 step 3, R81, R174). -/
def lockedWrite (update : Channel → Channel) (s : State) : State :=
  if s.gateOpen then
    if s.chan.mden then raiseBusError .locked s else s.accepted (update s.chan)
  else s.lostWrite

/-- A read that returns `value` of the channel (R71, R80), unless the clock gate is closed (R52). -/
def busRead (value : Channel → Word) (s : State) : State :=
  if s.gateOpen then s.returning (value s.chan) else s.gatedRead

/-- The answer to a bus operation that is no operation on a register (R72 steps 1 and 2, R74). While the
clock gate is closed it is answered as any write or read is (R52; notes/assumptions/8.md, DEDUCED). -/
def refuseBus (op : BusOp) (code : BusError) (s : State) : State :=
  if s.gateOpen then raiseBusError code s
  else if op.we then s.lostWrite else s.gatedRead

/-- The platform moves the clock gate; the block keeps its state (R52). -/
def State.setGate (s : State) (isOpen : Bool) : State :=
  { s with gateOpen := isOpen, response := .none }

/-- The number of an error code: `ERR_UNMAPPED` 1, `ERR_BADACCESS` 2, `ERR_LOCKED` 3 (R171). -/
def errorNumber : BusError → Nat
  | .unmapped => 1
  | .badAccess => 2
  | .locked => 3

/-- The response as one number: 0 stands for `OKAY`, an error has the number of its code (R171); none where
the step was no bus operation. -/
def Response.number : Response → Option Nat
  | .none => Option.none
  | .okay => some 0
  | .okayData _ => some 0
  | .error code => some (errorNumber code)

/-- The word a read returned; a write and a refused read return none (R170). -/
def Response.word : Response → Option Word
  | .none => Option.none
  | .okay => Option.none
  | .okayData value => some value
  | .error _ => Option.none

/-! ## Enabling the channel -/

/-- The run state as the enabling write initialises it (R82, R84). -/
def Channel.initRun (c : Channel) : Channel :=
  { c with
    phase := 0
    cmpa := c.cmpb
    hold := ⟨0, 0, 0⟩
    side := ⟨false, false, false⟩
    cnt := ⟨c.dtr, c.dtr, c.dtr⟩ }

/-! ## Releasing a trip -/

/-- `Release(p)`: a set latch is cleared and its path disarmed; a clear latch is left alone (R113). -/
def Channel.release (c : Channel) (p : Path) : Channel :=
  if c.latch.get p then
    { c with latch := c.latch.set p false, pen := c.pen.set p false }
  else c

/-- `KEYST[p] <- k`. -/
def Channel.withKey (c : Channel) (p : Path) (k : KeyState) : Channel :=
  { c with keyst := c.keyst.set p k }

/-- `KeyStep(p, v)`: what a write of `v` to the REL register of path `p` does (R112). -/
def Channel.keyStep (c : Channel) (p : Path) (v : Word) : Channel :=
  if v = Config.key1 then c.withKey p .k1
  else if v = Config.key2 ∧ c.keyst.get p = .k1 then (c.withKey p .idle).release p
  else c.withKey p .idle

end Sys2Proof.Machine
end

