-- ==== Sys2Proof/Machine/Operands.lean ====
section
/-! DEFINITION. The operand forms (spec/30_encoding.md R63 to R71, R73): what a write takes from its data
word, the word a read builds, and the timing selector (spec/42_duty_frequency.md R139). -/

namespace Sys2Proof.Machine

/-! ## Writes: each field from its bit range -/

/-- `MDEN <- data[0]`, with the run-state initialisation when that takes `MDEN` from 0 to 1 (R63, R82). -/
def Channel.storeEn (c : Channel) (data : Word) : Channel :=
  let started := if !c.mden && data[0] then c.initRun else c
  { started with mden := data[0] }

/-- `UPMD <- data[0]; LOMD <- data[1]` (R64, R86). -/
def Channel.storePom (c : Channel) (data : Word) : Channel :=
  { c with upmd := data[0], lomd := data[1] }

/-- `CAR[U] <- data[1:0]; CAR[V] <- data[3:2]; CAR[W] <- data[5:4]; DTYMD <- data[6]; DTCREN <- data[7];
DSYNCS <- data[9:8]` (R65, R88). -/
def Channel.storeWfc (c : Channel) (data : Word) : Channel :=
  { c with
    car := ⟨data.extractLsb' 0 2, data.extractLsb' 2 2, data.extractLsb' 4 2⟩
    dtymd := data[6]
    dtcren := data[7]
    dsyncs := data.extractLsb' 8 2 }

/-- `POLH <- data[0]; POLL <- data[1]; SYNCS <- data[3:2]; PSYNCS <- data[5:4]` (R66, R90). -/
def Channel.storeOpl (c : Channel) (data : Word) : Channel :=
  { c with
    polh := data[0]
    poll := data[1]
    syncs := data.extractLsb' 2 2
    psyncs := data.extractLsb' 4 2 }

/-- `DTR <- data` (R67, R92). -/
def Channel.storeDtr (c : Channel) (data : Word) : Channel :=
  { c with dtr := data }

/-- `RATE <- data` (R67, R130). -/
def Channel.storeRate (c : Channel) (data : Word) : Channel :=
  { c with rate := data }

/-- `CMPB[x] <- data` (R67, R142, R144, R146). -/
def Channel.storeCmp (c : Channel) (x : Phase) (data : Word) : Channel :=
  { c with cmpb := c.cmpb.set x data }

/-- `PEN[p] <- data[0]; INPOL[p] <- data[1]; RESP[p] <- data[3:2]; FILT[p] <- data[7:4]` (R68, R101,
R103). -/
def Channel.storeCr (c : Channel) (p : Path) (data : Word) : Channel :=
  { c with
    pen := c.pen.set p (data[0])
    inpol := c.inpol.set p (data[1])
    resp := c.resp.set p (data.extractLsb' 2 2)
    filt := c.filt.set p (data.extractLsb' 4 4) }

/-- A write to a status register: the data is discarded and no state changes (R70, R117, R119). -/
def Channel.discard (c : Channel) (_data : Word) : Channel := c

/-! ## Reads: each field at its bit range, zero elsewhere -/

/-- `zext_32(MDEN)` (R63, R83). -/
def Channel.enWord (c : Channel) : Word :=
  0#31 ++ BitVec.ofBool c.mden

/-- `{0[31:2], LOMD, UPMD}` (R64, R87). -/
def Channel.pomWord (c : Channel) : Word :=
  0#30 ++ BitVec.ofBool c.lomd ++ BitVec.ofBool c.upmd

/-- `{0[31:10], DSYNCS, DTCREN, DTYMD, CAR[W], CAR[V], CAR[U]}` (R65, R89). -/
def Channel.wfcWord (c : Channel) : Word :=
  0#22 ++ c.dsyncs ++ BitVec.ofBool c.dtcren ++ BitVec.ofBool c.dtymd ++ c.car.w ++ c.car.v ++ c.car.u

/-- `{0[31:6], PSYNCS, SYNCS, POLL, POLH}` (R66, R91). -/
def Channel.oplWord (c : Channel) : Word :=
  0#26 ++ c.psyncs ++ c.syncs ++ BitVec.ofBool c.poll ++ BitVec.ofBool c.polh

/-- `{0[31:8], FILT[p], RESP[p], INPOL[p], PEN[p]}` (R68, R102, R104). -/
def Channel.crWord (c : Channel) (p : Path) : Word :=
  0#24 ++ c.filt.get p ++ c.resp.get p ++ BitVec.ofBool (c.inpol.get p) ++ BitVec.ofBool (c.pen.get p)

/-- A read of a REL register returns 0: a key port gives back nothing (R19, R69, R115, R116). -/
def Channel.relWord (_c : Channel) : Word := 0

/-- `zext_32(LATCH[p])` (R70, R118, R120). -/
def Channel.staWord (c : Channel) (p : Path) : Word :=
  0#31 ++ BitVec.ofBool (c.latch.get p)

/-- The word an accepted read of a register returns (R62, R71, R132). -/
def Channel.regWord (c : Channel) : Reg → Word
  | .en => c.enWord
  | .pom => c.pomWord
  | .wfc => c.wfcWord
  | .opl => c.oplWord
  | .dtr => c.dtr
  | .rate => c.rate
  | .cmpu => c.cmpb.u
  | .cmpv => c.cmpb.v
  | .cmpw => c.cmpb.w
  | .emgcr => c.crWord .emg
  | .ovvcr => c.crWord .ovv
  | .emgrel => c.relWord
  | .ovvrel => c.relWord
  | .emgsta => c.staWord .emg
  | .ovvsta => c.staWord .ovv

/-- The field mask of each register: the bits a write stores (R73); a REL and a STA register store none
(R19, R20). -/
def fieldMask : Reg → Word
  | .en => 0x00000001
  | .pom => 0x00000003
  | .wfc => 0x000003FF
  | .opl => 0x0000003F
  | .dtr => 0xFFFFFFFF
  | .rate => 0xFFFFFFFF
  | .cmpu => 0xFFFFFFFF
  | .cmpv => 0xFFFFFFFF
  | .cmpw => 0xFFFFFFFF
  | .emgcr => 0x000000FF
  | .ovvcr => 0x000000FF
  | .emgrel => 0
  | .ovvrel => 0
  | .emgsta => 0
  | .ovvsta => 0

/-! ## The window in a byte-addressed memory map -/

/-- The byte a platform that lays the window out in bytes finds at window offset `a`: byte `k` of a
register carries its bits `8k+7 .. 8k` (R42); none at an unmapped offset. No step of the block reads it. -/
def Channel.windowByte (c : Channel) (a : Offset) : Option (BitVec 8) :=
  (Reg.ofOffset (a &&& 0xFC)).map
    (fun r => (c.regWord r).extractLsb' (8 * (a.toNat % 4)) 8)

/-- The bus address of an offset of instance `id` (R40). -/
def busAddress (id : Nat) (off : Offset) : Nat :=
  Config.base id + off.toNat

/-! ## The timing selector -/

/-- `sel(m, c, e)`: every tick, carrier centre, carrier end, centre and end (R139). -/
def sel (m : Code) (centre finish : Bool) : Bool :=
  if m = 0b00#2 then true
  else if m = 0b01#2 then centre
  else if m = 0b10#2 then finish
  else centre || finish

end Sys2Proof.Machine
end

