-- ==== Sys2Proof/Machine/Flags.lean ====
section
/-! DEFINITION. The status flags `LATCH[p]` and the derived flags `PGATE_U`, `PGATE_L` (spec/10_state.md
R13): sub-step T1 of `TICK`, the force-off mask and sub-step T6 (spec/41_protection.md R105 to R110). -/

namespace Sys2Proof.Machine

/-- Path `p` is in a state of R100, as read off its bits; the hardware has no state register for it. -/
def Channel.inPathState (c : Channel) (p : Path) : PathState → Bool
  | .unconfigured =>
    c.pen.get p && !c.inpol.get p && c.resp.get p == 0b00#2 && c.filt.get p == 0#4 &&
      c.latch.get p == Config.latchRst p
  | .armed => c.pen.get p && !c.latch.get p
  | .tripped => c.latch.get p
  | .released => !c.pen.get p && !c.latch.get p
  | .latchedDisarmed => !c.pen.get p && c.latch.get p

/-- `active[p]`: the path is armed and the sampled level equals its polarity bit (R105). -/
def Channel.active (c : Channel) (p : Path) (level : Bool) : Bool :=
  c.pen.get p && (level == c.inpol.get p)

/-- The filter count of one path after T1 (R107). -/
def filterCount (active : Bool) (filt fcnt : FilterCount) : FilterCount :=
  if active then (if filt ≤ fcnt then fcnt else fcnt + 1) else 0

/-- The trip latch of one path after T1 (R107). -/
def filterLatch (active : Bool) (filt fcnt : FilterCount) (latch : Bool) : Bool :=
  latch || (active && decide (filt ≤ fcnt))

/-- The trip-input level of a path (R105: `in[EMG] = emg_in`, `in[OVV] = ovv_in`). -/
def tripLevel (emgIn ovvIn : Bool) : Path → Bool
  | .emg => emgIn
  | .ovv => ovvIn

/-- T1, the trip filter and latch, in both modes and for both paths (R107). -/
def Channel.t1 (c : Channel) (emgIn ovvIn : Bool) : Channel :=
  { c with
    fcnt := PerPath.tabulate fun p =>
      filterCount (c.active p (tripLevel emgIn ovvIn p)) (c.filt.get p) (c.fcnt.get p)
    latch := PerPath.tabulate fun p =>
      filterLatch (c.active p (tripLevel emgIn ovvIn p)) (c.filt.get p) (c.fcnt.get p) (c.latch.get p) }

/-- `fu(resp)`: the response mode forces the upper group off (R109). -/
def forcesUpper (resp : Code) : Bool :=
  resp == 0b00#2 || resp == 0b01#2 || resp == 0b11#2

/-- `fl(resp)`: the response mode forces the lower group off (R109). -/
def forcesLower (resp : Code) : Bool :=
  resp == 0b00#2 || resp == 0b10#2 || resp == 0b11#2

/-- `want_U` (R109). -/
def Channel.wantU (c : Channel) : Bool :=
  (c.latch.emg && forcesUpper c.resp.emg) || (c.latch.ovv && forcesUpper c.resp.ovv)

/-- `want_L` (R109). -/
def Channel.wantL (c : Channel) : Bool :=
  (c.latch.emg && forcesLower c.resp.emg) || (c.latch.ovv && forcesLower c.resp.ovv)

/-- `SYNCS != 0b00 and sync_in[SYNCS] = 1` (R17, R110). -/
def syncPulse (syncs : Code) (syncIn : SyncLevels) : Bool :=
  if syncs = 0b01#2 then syncIn[0]
  else if syncs = 0b10#2 then syncIn[1]
  else if syncs = 0b11#2 then syncIn[2]
  else false

/-- `upd` of T6: the tick on which the protection-output buffer may be released (R110). -/
def Channel.bufferUpdate (c : Channel) (centre finish : Bool) (syncIn : SyncLevels) : Bool :=
  !c.mden || sel c.psyncs centre finish || syncPulse c.syncs syncIn

/-- T6, the protection-output buffer: forcing is immediate, releasing waits for an update event (R110). -/
def Channel.t6 (c : Channel) (centre finish : Bool) (syncIn : SyncLevels) : Channel :=
  { c with
    pgateU := c.wantU || (c.pgateU && !c.bufferUpdate centre finish syncIn)
    pgateL := c.wantL || (c.pgateL && !c.bufferUpdate centre finish syncIn) }

end Sys2Proof.Machine
end

