-- ==== Sys2Proof/Machine/Carrier.lean ====
section
/-! DEFINITION. The carrier, the duty update latch and the comparator: sub-steps T2, T3 and T4 of `TICK`
(spec/42_duty_frequency.md R133 to R141). -/

namespace Sys2Proof.Machine

/-- `RATE[23:0]`, the part of the rate that reaches the accumulator (R133). -/
def Channel.rateStep (c : Channel) : PhaseAcc :=
  c.rate.extractLsb' 0 24

/-- `sum`, the exact accumulator sum (R133, R148 a). -/
def Channel.carrierSum (c : Channel) : Nat :=
  c.phase.toNat + c.rateStep.toNat

/-- `ev_end` of T2: the accumulator wraps (R133). -/
def Channel.evEnd (c : Channel) : Bool :=
  decide (2 ^ Config.phaseBits ≤ c.carrierSum)

/-- `ev_ctr` of T2: the accumulator passes half scale (R133). -/
def Channel.evCtr (c : Channel) : Bool :=
  decide (c.phase.toNat < 2 ^ (Config.phaseBits - 1)) &&
    decide (2 ^ (Config.phaseBits - 1) ≤ c.carrierSum)

/-- T2: `PHASE <- sum mod 2^24` (R133). -/
def Channel.t2 (c : Channel) : Channel :=
  { c with phase := BitVec.ofNat Config.phaseBits c.carrierSum }

/-- The carrier frequency in Hz (R134, R185); no rule of the model reads it. -/
def Channel.carrierFrequency (c : Channel) : ℚ :=
  Config.fSys * c.rateStep.toNat / 2 ^ Config.phaseBits

/-- T3, the duty update latch: all three phases together, on the tick `DSYNCS` selects (R140). -/
def Channel.t3 (c : Channel) (centre finish : Bool) : Channel :=
  { c with cmpa := if sel c.dsyncs centre finish then c.cmpb else c.cmpa }

/-- `carrier(shape, PHASE)`: sawtooth, triangle, reverse sawtooth, reverse triangle (R136). -/
def carrier (shape : Code) (phase : PhaseAcc) : CarrierValue :=
  let q : CarrierValue := phase.extractLsb' 9 15
  let t : CarrierValue := phase.extractLsb' 8 15
  let rising := !phase[23]
  if shape = 0b00#2 then q
  else if shape = 0b01#2 then (if rising then t else 0x7FFF - t)
  else if shape = 0b10#2 then 0x7FFF - q
  else (if rising then 0x7FFF - t else t)

/-- `d[x]`: the duty phase `x` compares against, its own in independent mode and U's in common mode
(R137, R141). -/
def Channel.duty (c : Channel) (x : Phase) : Word :=
  if c.dtymd then c.cmpa.get x else c.cmpa.u

/-- The comparison of T4: `zext_32(c) < d`, unsigned (R137). -/
def below (value : CarrierValue) (duty : Word) : Bool :=
  decide (value.setWidth 32 < duty)

/-- T4: `r[x]`, the raw PWM of phase `x` (R137). -/
def Channel.rawPwm (c : Channel) (x : Phase) : Bool :=
  below (carrier (c.car.get x) c.phase) (c.duty x)

end Sys2Proof.Machine
end

