-- ==== Sys2Proof/Machine/DeadTime.lean ====
section
/-! DEFINITION. Dead-time insertion: sub-step T5 of `TICK` (spec/43_deadtime_output.md R153 to R156). -/

namespace Sys2Proof.Machine

/-- `s[x]` of T5a: the raw PWM stretched by the dead-time correction (R154). -/
def stretched (dtcren raw : Bool) (hold : Word) : Bool :=
  if dtcren then raw || decide (hold ≠ 0) else raw

/-- `HOLD[x]` after T5a (R154). -/
def stretchHold (dtcren raw : Bool) (dtr hold : Word) : Word :=
  if dtcren then
    if raw then dtr
    else if hold ≠ 0 then hold - 1
    else hold
  else 0

/-- `CNT[x]` after T5b: a change of the commanded side restarts the dead time (R155). -/
def insertCount (s side : Bool) (dtr cnt : Word) : Word :=
  if s ≠ side then dtr
  else if cnt ≠ 0 then cnt - 1
  else cnt

/-- T5 for the three phases, given the raw PWM of the tick (R153 to R155). After T5b `SIDE[x]` is `s[x]`
whether or not it changed. -/
def Channel.t5 (c : Channel) (raw : PerPhase Bool) : Channel :=
  { c with
    hold := PerPhase.tabulate fun x => stretchHold c.dtcren (raw.get x) c.dtr (c.hold.get x)
    side := PerPhase.tabulate fun x => stretched c.dtcren (raw.get x) (c.hold.get x)
    cnt := PerPhase.tabulate fun x =>
      insertCount (stretched c.dtcren (raw.get x) (c.hold.get x)) (c.side.get x) c.dtr (c.cnt.get x) }

/-- `P[x]`, the plain on-command (R156). -/
def Channel.plainOn (c : Channel) (x : Phase) : Bool :=
  c.side.get x && decide (c.cnt.get x = 0)

/-- `C[x]`, the complementary on-command (R156). -/
def Channel.compOn (c : Channel) (x : Phase) : Bool :=
  !c.side.get x && decide (c.cnt.get x = 0)

end Sys2Proof.Machine
end

