-- ==== Sys2Proof/Machine/Pins.lean ====
section
/-! DEFINITION. The output mux, the gate and the polarity: the six outputs as a function of the state
(spec/43_deadtime_output.md R158 to R160, spec/00_scope.md R5). -/

namespace Sys2Proof.Machine

/-- `usel[x]` (R158). -/
def Channel.upperSel (c : Channel) (x : Phase) : Bool :=
  if c.upmd then c.compOn x else c.plainOn x

/-- `lsel[x]` (R158). -/
def Channel.lowerSel (c : Channel) (x : Phase) : Bool :=
  if c.lomd then c.compOn x else c.plainOn x

/-- `uon[x]` (R159). -/
def Channel.upperOn (c : Channel) (x : Phase) : Bool :=
  c.mden && c.upperSel x && !c.pgateU

/-- `lon[x]` (R159). -/
def Channel.lowerOn (c : Channel) (x : Phase) : Bool :=
  c.mden && c.lowerSel x && !c.pgateL

/-- The level of the upper pin of phase `x` (R160). -/
def Channel.upperPin (c : Channel) (x : Phase) : Bool :=
  if c.polh then c.upperOn x else !c.upperOn x

/-- The level of the lower pin of phase `x` (R160). -/
def Channel.lowerPin (c : Channel) (x : Phase) : Bool :=
  if c.poll then c.lowerOn x else !c.lowerOn x

/-- The six outputs (R160). -/
def Channel.pins (c : Channel) : Pins where
  uh := c.upperPin .u
  vh := c.upperPin .v
  wh := c.upperPin .w
  ul := c.lowerPin .u
  vl := c.lowerPin .v
  wl := c.lowerPin .w

/-- The outputs as observed after a step (R5). -/
def State.pins (s : State) : Pins := s.chan.pins

end Sys2Proof.Machine
end

