-- ==== Sys2Proof/Machine/Clock.lean ====
section
/-! DEFINITION. The two steps that are no bus operation: `TICK` (spec/43_deadtime_output.md R150) and
`RESET` (spec/70_reset_and_hazards.md R190). -/

namespace Sys2Proof.Machine

/-- T2 to T5 of a `TICK` in RUN mode, in the order of R150: the carrier, the duty latch with the events of
the carrier step, the comparator on the state as T3 leaves it, the dead time. -/
def Channel.runSteps (c : Channel) : Channel :=
  let latched := c.t2.t3 c.evCtr c.evEnd
  latched.t5 (PerPhase.tabulate latched.rawPwm)

/-- What a `TICK` makes of the channel (R150): T1, then in RUN mode T2 to T5, then T6 with the carrier
events, which are 0 in CONFIG mode. -/
def Channel.tick (c : Channel) (emgIn ovvIn : Bool) (syncIn : SyncLevels) : Channel :=
  let sampled := c.t1 emgIn ovvIn
  if sampled.mden then sampled.runSteps.t6 sampled.evCtr sampled.evEnd syncIn
  else sampled.t6 false false syncIn

/-- `TICK`: one rising edge of the peripheral clock (R150). While the clock gate is closed no edge reaches
the block, which keeps its state (R52; notes/assumptions/8.md, DEDUCED). -/
def execTick (emgIn ovvIn : Bool) (syncIn : SyncLevels) (s : State) :
    Host.Outcome State Fault Refusal :=
  .next (s.quietly (if s.gateOpen then s.chan.tick emgIn ovvIn syncIn else s.chan))

/-- `RESET`: every state element of the channel takes its reset value, whatever the state before (R190).
The platform's clock gate and the requests the agents have placed are no part of the channel
(notes/assumptions/6.md, 12.md). -/
def execReset (s : State) : Host.Outcome State Fault Refusal :=
  .next (s.quietly (Channel.reset Config.latchRst))

end Sys2Proof.Machine
end

