-- ==== Sys2Proof/Machine/EnableConfig.lean ====
section
/-! DEFINITION. Enable and waveform configuration: EN, POM, WFC, OPL, DTR (spec/40_waveform_config.md). -/

namespace Sys2Proof.Machine

/-- `WR.EN`: the master enable, with the run-state initialisation on 0 to 1; never locked (R82, R84, R85). -/
def execWrEn (data : Word) (s : State) : Host.Outcome State Fault Refusal :=
  .next (busWrite (fun c => c.storeEn data) s)

/-- `RD.EN` (R83). -/
def execRdEn (s : State) : Host.Outcome State Fault Refusal :=
  .next (busRead Channel.enWord s)

/-- `WR.POM`: locked in RUN mode (R81, R86). -/
def execWrPom (data : Word) (s : State) : Host.Outcome State Fault Refusal :=
  .next (lockedWrite (fun c => c.storePom data) s)

/-- `RD.POM`: never locked (R87). -/
def execRdPom (s : State) : Host.Outcome State Fault Refusal :=
  .next (busRead Channel.pomWord s)

/-- `WR.WFC`: locked in RUN mode (R81, R88). -/
def execWrWfc (data : Word) (s : State) : Host.Outcome State Fault Refusal :=
  .next (lockedWrite (fun c => c.storeWfc data) s)

/-- `RD.WFC`: never locked (R89). -/
def execRdWfc (s : State) : Host.Outcome State Fault Refusal :=
  .next (busRead Channel.wfcWord s)

/-- `WR.OPL`: locked in RUN mode (R81, R90). -/
def execWrOpl (data : Word) (s : State) : Host.Outcome State Fault Refusal :=
  .next (lockedWrite (fun c => c.storeOpl data) s)

/-- `RD.OPL`: never locked (R91). -/
def execRdOpl (s : State) : Host.Outcome State Fault Refusal :=
  .next (busRead Channel.oplWord s)

/-- `WR.DTR`: locked in RUN mode (R81, R92). -/
def execWrDtr (data : Word) (s : State) : Host.Outcome State Fault Refusal :=
  .next (lockedWrite (fun c => c.storeDtr data) s)

/-- `RD.DTR`: never locked (R93). -/
def execRdDtr (s : State) : Host.Outcome State Fault Refusal :=
  .next (busRead Channel.dtr s)

end Sys2Proof.Machine
end

