-- ==== Sys2Proof/Machine/Protection.lean ====
section
/-! DEFINITION. The protection registers of the EMG and OVV paths (spec/41_protection.md). -/

namespace Sys2Proof.Machine

/-- `WR.EMGCR`: not locked; no flag is written (R101). -/
def execWrEmgcr (data : Word) (s : State) : Host.Outcome State Fault Refusal :=
  .next (busWrite (fun c => c.storeCr .emg data) s)

/-- `RD.EMGCR` (R102). -/
def execRdEmgcr (s : State) : Host.Outcome State Fault Refusal :=
  .next (busRead (fun c => c.crWord .emg) s)

/-- `WR.OVVCR`: not locked; no flag is written (R103). -/
def execWrOvvcr (data : Word) (s : State) : Host.Outcome State Fault Refusal :=
  .next (busWrite (fun c => c.storeCr .ovv data) s)

/-- `RD.OVVCR` (R104). -/
def execRdOvvcr (s : State) : Host.Outcome State Fault Refusal :=
  .next (busRead (fun c => c.crWord .ovv) s)

/-- `WR.EMGREL`: one step of the key sequencer, `OKAY` whatever the key (R111, R112). -/
def execWrEmgrel (data : Word) (s : State) : Host.Outcome State Fault Refusal :=
  .next (busWrite (fun c => c.keyStep .emg data) s)

/-- `RD.EMGREL`: returns 0 and moves no sequencer (R115). -/
def execRdEmgrel (s : State) : Host.Outcome State Fault Refusal :=
  .next (busRead Channel.relWord s)

/-- `WR.OVVREL`: one step of the key sequencer, `OKAY` whatever the key (R114, R112). -/
def execWrOvvrel (data : Word) (s : State) : Host.Outcome State Fault Refusal :=
  .next (busWrite (fun c => c.keyStep .ovv data) s)

/-- `RD.OVVREL`: returns 0 and moves no sequencer (R116). -/
def execRdOvvrel (s : State) : Host.Outcome State Fault Refusal :=
  .next (busRead Channel.relWord s)

/-- `WR.EMGSTA`: accepted and ignored (R117). -/
def execWrEmgsta (data : Word) (s : State) : Host.Outcome State Fault Refusal :=
  .next (busWrite (fun c => c.discard data) s)

/-- `RD.EMGSTA`: the latch, which the read does not clear (R118). -/
def execRdEmgsta (s : State) : Host.Outcome State Fault Refusal :=
  .next (busRead (fun c => c.staWord .emg) s)

/-- `WR.OVVSTA`: accepted and ignored (R119). -/
def execWrOvvsta (data : Word) (s : State) : Host.Outcome State Fault Refusal :=
  .next (busWrite (fun c => c.discard data) s)

/-- `RD.OVVSTA`: the latch, which the read does not clear (R120). -/
def execRdOvvsta (s : State) : Host.Outcome State Fault Refusal :=
  .next (busRead (fun c => c.staWord .ovv) s)

end Sys2Proof.Machine
end

