-- ==== Sys2Proof/Machine/RateDuty.lean ====
section
/-! DEFINITION. Rate and duty registers: RATE, CMPU, CMPV, CMPW (spec/42_duty_frequency.md). -/

namespace Sys2Proof.Machine

/-- `WR.RATE`: not locked, not buffered, not clamped (R130). -/
def execWrRate (data : Word) (s : State) : Host.Outcome State Fault Refusal :=
  .next (busWrite (fun c => c.storeRate data) s)

/-- `RD.RATE` (R131). -/
def execRdRate (s : State) : Host.Outcome State Fault Refusal :=
  .next (busRead Channel.rate s)

/-- `WR.CMPU`: the duty buffer of phase U; not locked (R142). -/
def execWrCmpu (data : Word) (s : State) : Host.Outcome State Fault Refusal :=
  .next (busWrite (fun c => c.storeCmp .u data) s)

/-- `RD.CMPU`: the buffer, not the active latch (R132, R143). -/
def execRdCmpu (s : State) : Host.Outcome State Fault Refusal :=
  .next (busRead (fun c => c.cmpb.u) s)

/-- `WR.CMPV`: the duty buffer of phase V; not locked (R144). -/
def execWrCmpv (data : Word) (s : State) : Host.Outcome State Fault Refusal :=
  .next (busWrite (fun c => c.storeCmp .v data) s)

/-- `RD.CMPV`: the buffer, not the active latch (R132, R145). -/
def execRdCmpv (s : State) : Host.Outcome State Fault Refusal :=
  .next (busRead (fun c => c.cmpb.v) s)

/-- `WR.CMPW`: the duty buffer of phase W; not locked (R146). -/
def execWrCmpw (data : Word) (s : State) : Host.Outcome State Fault Refusal :=
  .next (busWrite (fun c => c.storeCmp .w data) s)

/-- `RD.CMPW`: the buffer, not the active latch (R132, R147). -/
def execRdCmpw (s : State) : Host.Outcome State Fault Refusal :=
  .next (busRead (fun c => c.cmpb.w) s)

end Sys2Proof.Machine
end

