-- ==== Sys2Proof/Machine/Dispatch.lean ====
section
/-! DEFINITION. The meaning of each step: one arm per constructor of `Instr`. -/

namespace Sys2Proof.Machine

def exec (i : Instr) (s : State) : Host.Outcome State Fault Refusal :=
  match i with
  | .wrEn data => Sys2Proof.Machine.execWrEn data s
  | .rdEn => Sys2Proof.Machine.execRdEn s
  | .wrPom data => Sys2Proof.Machine.execWrPom data s
  | .rdPom => Sys2Proof.Machine.execRdPom s
  | .wrWfc data => Sys2Proof.Machine.execWrWfc data s
  | .rdWfc => Sys2Proof.Machine.execRdWfc s
  | .wrOpl data => Sys2Proof.Machine.execWrOpl data s
  | .rdOpl => Sys2Proof.Machine.execRdOpl s
  | .wrDtr data => Sys2Proof.Machine.execWrDtr data s
  | .rdDtr => Sys2Proof.Machine.execRdDtr s
  | .wrRate data => Sys2Proof.Machine.execWrRate data s
  | .rdRate => Sys2Proof.Machine.execRdRate s
  | .wrCmpu data => Sys2Proof.Machine.execWrCmpu data s
  | .rdCmpu => Sys2Proof.Machine.execRdCmpu s
  | .wrCmpv data => Sys2Proof.Machine.execWrCmpv data s
  | .rdCmpv => Sys2Proof.Machine.execRdCmpv s
  | .wrCmpw data => Sys2Proof.Machine.execWrCmpw data s
  | .rdCmpw => Sys2Proof.Machine.execRdCmpw s
  | .wrEmgcr data => Sys2Proof.Machine.execWrEmgcr data s
  | .rdEmgcr => Sys2Proof.Machine.execRdEmgcr s
  | .wrOvvcr data => Sys2Proof.Machine.execWrOvvcr data s
  | .rdOvvcr => Sys2Proof.Machine.execRdOvvcr s
  | .wrEmgrel data => Sys2Proof.Machine.execWrEmgrel data s
  | .rdEmgrel => Sys2Proof.Machine.execRdEmgrel s
  | .wrOvvrel data => Sys2Proof.Machine.execWrOvvrel data s
  | .rdOvvrel => Sys2Proof.Machine.execRdOvvrel s
  | .wrEmgsta data => Sys2Proof.Machine.execWrEmgsta data s
  | .rdEmgsta => Sys2Proof.Machine.execRdEmgsta s
  | .wrOvvsta data => Sys2Proof.Machine.execWrOvvsta data s
  | .rdOvvsta => Sys2Proof.Machine.execRdOvvsta s
  | .tick emgIn ovvIn syncIn => Sys2Proof.Machine.execTick emgIn ovvIn syncIn s
  | .reset => Sys2Proof.Machine.execReset s

end Sys2Proof.Machine
end

