-- ==== Sys2Proof/Machine/Request.lean ====
section
/-! DEFINITION. Which request comes next and what serving it does: the block's counterpart of fetching an
instruction (spec/00_scope.md R3, R4; notes/assumptions/2.md, 3.md). -/

namespace Sys2Proof.Machine

/-- The next request: the first pending one, or, when nothing is pending, the agents' free choice. -/
def nextRequest (s : State) : Request :=
  match s.pending with
  | [] => Config.environment s.draws
  | r :: _ => r

/-- The state once the next request has been taken. -/
def takeRequest (s : State) : State :=
  match s.pending with
  | [] => { s with draws := s.draws + 1 }
  | _ :: rest => { s with pending := rest }

/-- The step a transaction word makes: its operation (R72), or the error it is answered with (R74). -/
def serveWord (t : TxWord) (s : State) : Host.Outcome State Fault Refusal :=
  match decode t with
  | .ok i => exec i s
  | .error code => .next (refuseBus (BusOp.ofWord t) code s)

/-- The step a request makes (R4), or the platform's move of the clock gate (R52). -/
def serve (r : Request) (s : State) : Host.Outcome State Fault Refusal :=
  match r with
  | .bus t => serveWord t s
  | .tick emgIn ovvIn syncIn => exec (.tick emgIn ovvIn syncIn) s
  | .reset => exec .reset s
  | .clkGate isOpen => .next (s.setGate isOpen)

/-- A request put before those already pending. -/
def State.place (s : State) (r : Request) : State :=
  { s with pending := r :: s.pending }

end Sys2Proof.Machine
end

