-- ==== Sys2Proof/Machine/Step.lean ====
section
/-! DEFINITION. One step of the machine, and the placing of a transaction word as its next request. -/

namespace Sys2Proof.Machine

/-- One step: the next request is taken and served (R3, R4). -/
def step (s : State) : Host.Outcome State Fault Refusal :=
  serve (nextRequest s) (takeRequest s)

/-- The machine with the transaction word of the low `nbits` bits of `w` as the request it serves next, and
with the clock gate open, without which the block does not see a bus operation (R52, R195 step 1;
notes/assumptions/4.md). -/
def State.withFetchWord (s : State) (nbits w : Nat) : State :=
  { s.place (.bus (tableWord nbits w)) with gateOpen := true }

end Sys2Proof.Machine
end

