-- ==== Sys2Proof/Machine/Software.lean ====
section
/-! DEFINITION. The pseudo-operations of spec/30_encoding.md R76: what each call of the source's software
interface asks of the block. They are the steps software makes, not steps of the block. -/

namespace Sys2Proof.Machine

/-- `setCarrierFrequency(id, rate)`, also called `setFrequency` (R76). -/
def setCarrierFrequency (rate : Word) : Instr := .wrRate rate

/-- `getCarrierFrequency(id)` (R76). -/
def getCarrierFrequency : Instr := .rdRate

/-- `setDuty(id, phase, value)` (R76). -/
def setDuty (x : Phase) (value : Word) : Instr :=
  match x with
  | .u => .wrCmpu value
  | .v => .wrCmpv value
  | .w => .wrCmpw value

/-- `getDuty(id, phase)` (R76). -/
def getDuty : Phase → Instr
  | .u => .rdCmpu
  | .v => .rdCmpv
  | .w => .rdCmpw

/-- `getProtectionStatus(id, path)`: the read (R76). -/
def getProtectionStatus : Path → Instr
  | .emg => .rdEmgsta
  | .ovv => .rdOvvsta

/-- What `getProtectionStatus` answers (R76). -/
inductive ProtectionStatus
  | ok | tripped
  deriving DecidableEq, Repr

/-- `getProtectionStatus`: what the word it read means, bit 0 = 1 `Tripped`, 0 `Ok` (R76). -/
def protectionStatus (read : Word) : ProtectionStatus :=
  if read[0] then .tripped else .ok

/-- The status in the response of a `getProtectionStatus` just made (R76). -/
def State.protectionStatus (s : State) : Option ProtectionStatus :=
  s.response.word.map Machine.protectionStatus

/-- A read of the Protection-Control register of a path (R76). -/
def readControl : Path → Instr
  | .emg => .rdEmgcr
  | .ovv => .rdOvvcr

/-- A write to the Protection-Control register of a path (R76). -/
def writeControl (p : Path) (data : Word) : Instr :=
  match p with
  | .emg => .wrEmgcr data
  | .ovv => .wrOvvcr data

/-- A write to the Protection-Release register of a path (R76). -/
def writeKey (p : Path) (key : Word) : Instr :=
  match p with
  | .emg => .wrEmgrel key
  | .ovv => .wrOvvrel key

/-- `armProtection(id, path, inpol, resp, filt)`: one word with `PEN = 1` (R76). -/
def armProtection (p : Path) (inpol : Bool) (resp : Code) (filt : FilterCount) : Instr :=
  writeControl p (0#24 ++ filt ++ resp ++ BitVec.ofBool inpol ++ 1#1)

/-- The Waveform Configurator (R76, R94). -/
def waveformConfigurator : List Instr :=
  [.wrWfc 0x000001D5, .wrOpl 0x00000027]

/-- The precondition of the Waveform Configurator, which software checks: `MDEN = 0` (R76, R94). -/
abbrev WaveformPrecondition (s : State) : Prop := s.chan.mden = false

/-- The enable of the channel (R76). -/
def enableChannel : Instr := .wrEn 0x00000001

/-! ## Calls of several steps -/

/-- What a call does after a step that answered a next state; a fault or a refusal ends the call. -/
def andThen (o : Host.Outcome State Fault Refusal)
    (f : State → Host.Outcome State Fault Refusal) : Host.Outcome State Fault Refusal :=
  match o with
  | .next t => f t
  | .fault e => .fault e
  | .refused e => .refused e

/-- A list of requests served one after the other. -/
def serveAll : List Request → State → Host.Outcome State Fault Refusal
  | [], s => .next s
  | r :: rest, s => andThen (serve r s) (serveAll rest)

/-- The two key writes of `releaseProtection(id, path)`, with the clock edges of the optional wait between
them (R50, R76, R206). -/
def releaseKeys (p : Path) (wait : List Request) : List Request :=
  encode (writeKey p Config.key1) :: wait ++ [encode (writeKey p Config.key2)]

/-- The last write of `releaseProtection`: the word just read from the control register with the enable
bit cleared (R76). -/
def disarmWrite (p : Path) (read : Word) : Instr :=
  writeControl p (read &&& 0xFFFFFFFE)

/-- `releaseProtection(id, path)`: the two keys, the read of the control register, and the write of the word
read with its enable bit cleared (R76). A read always returns a word (`readControl_word`). -/
def releaseProtection (p : Path) (wait : List Request) (s : State) : Host.Outcome State Fault Refusal :=
  andThen (serveAll (releaseKeys p wait ++ [encode (readControl p)]) s) fun t =>
    match t.response.word with
    | some read => serve (encode (disarmWrite p read)) t
    | none => .next t

/-- The Protection Controller's disable-on-init: both paths are released whether or not they have tripped
(R76). -/
def disableOnInit (waitEmg waitOvv : List Request) (s : State) : Host.Outcome State Fault Refusal :=
  andThen (releaseProtection .emg waitEmg s) (releaseProtection .ovv waitOvv)

/-- `initChannel(id, phaseCount, useComplement)`: the Pin/Clock Binder, of which only the opening of the clock
gate reaches the block and which alone reads `phaseCount` and `useComplement`; the Waveform Configurator; the
disable-on-init. EN is left as it is (R76, R196). -/
def initChannel (waitEmg waitOvv : List Request) (s : State) : Host.Outcome State Fault Refusal :=
  andThen (serveAll (.clkGate true :: waveformConfigurator.map encode) s)
    (disableOnInit waitEmg waitOvv)

end Sys2Proof.Machine
end

