-- ==== Sys2Proof/Safety.lean ====
section
/-! DEFINITION. The terms the claims use: the invariant of the channel, runs of clock edges, which states
look alike, and which switches are on. -/

namespace Sys2Proof.Machine

/-- A set latch forces at least one pin group off, since no response code forces nothing (R109, R110). -/
def Channel.LatchForces (c : Channel) : Prop :=
  (c.latch.emg || c.latch.ovv) = true → (c.pgateU || c.pgateL) = true

/-- In RUN mode no dead-time counter is above the dead time (R81, R84, R154, R155). -/
def Channel.CountersBounded (c : Channel) : Prop :=
  c.mden = true → ∀ x, c.cnt.get x ≤ c.dtr ∧ c.hold.get x ≤ c.dtr

/-- In RUN mode without correction the stretch counters are 0 (R84, R154). -/
def Channel.NoStaleHold (c : Channel) : Prop :=
  c.mden = true → c.dtcren = false → ∀ x, c.hold.get x = 0

/-- The invariant of the channel, which every step of every agent keeps. -/
structure Channel.Inv (c : Channel) : Prop where
  latchForces : c.LatchForces
  countersBounded : c.CountersBounded
  noStaleHold : c.NoStaleHold

/-- The levels one clock edge samples (R27). -/
structure TickLevels where
  emgIn : Bool
  ovvIn : Bool
  syncIn : SyncLevels
  deriving DecidableEq, Repr

/-- The channel after a run of clock edges with no other step between them. -/
def Channel.ticks (c : Channel) : List TickLevels → Channel
  | [] => c
  | l :: rest => Channel.ticks (c.tick l.emgIn l.ovvIn l.syncIn) rest

/-- How many of a run of clock edges have `ev_end = 1` (R133). -/
def Channel.carrierEnds (c : Channel) : List TickLevels → Nat
  | [] => 0
  | l :: rest =>
    (c.mden && c.evEnd).toNat + Channel.carrierEnds (c.tick l.emgIn l.ovvIn l.syncIn) rest

/-- The words a list of requests writes to the REL register of path `p`, in order. -/
def keysWritten (p : Path) (rs : List Request) : List Word :=
  rs.filterMap fun r =>
    match p, decodeRequest r with
    | .emg, some (.wrEmgrel v) => some v
    | .ovv, some (.wrOvvrel v) => some v
    | _, _ => none

/-- Two channels that differ at most in the run state `PHASE`, `CMPA`, `HOLD`, `SIDE`, `CNT` (R85). -/
def SameButRunState (c d : Channel) : Prop :=
  d = { c with phase := d.phase, cmpa := d.cmpa, hold := d.hold, side := d.side, cnt := d.cnt }

/-- Two channels agree on every element of path `p` (R10). -/
structure SamePath (p : Path) (c d : Channel) : Prop where
  pen : c.pen.get p = d.pen.get p
  inpol : c.inpol.get p = d.inpol.get p
  resp : c.resp.get p = d.resp.get p
  filt : c.filt.get p = d.filt.get p
  latch : c.latch.get p = d.latch.get p
  keyst : c.keyst.get p = d.keyst.get p
  fcnt : c.fcnt.get p = d.fcnt.get p

/-- The locked registers POM, WFC, OPL, DTR hold the same in both channels (R81). -/
structure SameLocked (c d : Channel) : Prop where
  upmd : c.upmd = d.upmd
  lomd : c.lomd = d.lomd
  car : c.car = d.car
  dtymd : c.dtymd = d.dtymd
  dtcren : c.dtcren = d.dtcren
  dsyncs : c.dsyncs = d.dsyncs
  polh : c.polh = d.polh
  poll : c.poll = d.poll
  syncs : c.syncs = d.syncs
  psyncs : c.psyncs = d.psyncs
  dtr : c.dtr = d.dtr

/-- The pin groups of the pins at their inactive level: 0 if active-high, 1 if active-low (R160). -/
def Channel.upperInactive (c : Channel) : Prop :=
  c.pins.uh = !c.polh ∧ c.pins.vh = !c.polh ∧ c.pins.wh = !c.polh

/-- The lower pin group at its inactive level (R160). -/
def Channel.lowerInactive (c : Channel) : Prop :=
  c.pins.ul = !c.poll ∧ c.pins.vl = !c.poll ∧ c.pins.wl = !c.poll

end Sys2Proof.Machine
end

