-- ==== Sys2Proof/Certificates/Slice0/Obligations.lean ====
section
/-! DEFINITION. The statements for the provers. Each is made in the terms of spec/ (R<n>); a statement about a
bus operation is made with the clock gate open unless it is about the gate, since R52 says that all other
rules describe the block with the gate open. In an equation `exec i s = .next { s with … }` everything the
braces do not name is unchanged: that is the statement's frame. The block has no memory (spec/20_memory.md),
so there is no byte of memory to frame. -/

open Sys2Proof Sys2Proof.Machine

/-! ## Steps, encoding and reset -/

/-- R4: the machine takes its next request and runs the step it decodes to; taking a request changes nothing
but the queue it came from. That a request may come from the queue `pending`, and otherwise from the free
`Config.environment`, is the model's choice (notes/assumptions/2.md, 3.md). -/
def Obligations.StepRunsTheRequestedOperation : Prop :=
  ∀ s : State,
    (∀ i, decodeRequest (nextRequest s) = some i → step s = exec i (takeRequest s)) ∧
    (s.pending = [] → nextRequest s = Config.environment s.draws ∧
      takeRequest s = { s with draws := s.draws + 1 }) ∧
    (∀ r rest, s.pending = r :: rest → nextRequest s = r ∧ takeRequest s = { s with pending := rest })

/-- R61, R62, R72, R74: words written out from the encoding, and words that are no operation. -/
def Obligations.TransactionWordsDecode : Prop :=
  decode 0x50000000001 = .ok (.wrEn 0x1) ∧ decode 0x508000001D5 = .ok (.wrWfc 0x1D5) ∧
  decode 0x41400000000 = .ok .rdRate ∧ decode 0x51C00002000 = .ok (.wrCmpv 0x2000) ∧
  decode 0x530000000A5 = .ok (.wrOvvrel 0xA5) ∧ decode 0x43400000000 = .ok .rdEmgsta ∧
  decode 0x11000000005 = .error .badAccess ∧ decode 0x51200000005 = .error .badAccess ∧
  decode 0x23E00000000 = .error .badAccess ∧ decode 0x43C00000000 = .error .unmapped

/-- R60, R61, R62, R72: the request an instruction is encoded as decodes to that instruction, with every
operand at every value. -/
def Obligations.EncodedInstructionDecodesToItself : Prop :=
  ∀ i : Instr, i.wf = true → decodeRequest (encode i) = some i

/-- R72 steps 1, 2 and 4, R74: which words are refused, and that every other word is the encoding of the
operation it decodes to, up to the data a read ignores. -/
def Obligations.DecodingFollowsTheTestsInOrder : Prop :=
  ∀ t : TxWord,
    let sz := t.extractLsb' 41 2
    let off := (t.extractLsb' 32 8).toNat
    (sz ≠ 0b10#2 ∨ off % 4 ≠ 0 → decode t = .error .badAccess) ∧
    (sz = 0b10#2 → off % 4 = 0 → 0x38 < off → decode t = .error .unmapped) ∧
    (sz = 0b10#2 → off % 4 = 0 → off ≤ 0x38 →
      ∃ i, decode t = .ok i ∧ encodeWord i = some (if t[40] then t else t &&& 0x7FF00000000))

/-- R30, R190: `RESET` loads the reset table from any state; `LATCH_RST` is open, so the statement holds for
its four values. That the clock gate, the pending requests and the draws are no part of the channel is the
model's choice (notes/assumptions/6.md, 12.md); that `RESET` acts while the clock gate is closed too, where R52
says nothing of it, is the model's reading (notes/assumptions/8.md, DEDUCED, unsafe there). -/
def Obligations.ResetLoadsTheResetTable : Prop :=
  ∀ s : State, exec .reset s = .next { s with
    chan :=
      { mden := false, upmd := false, lomd := true, car := ⟨0, 0, 0⟩, dtymd := false, dtcren := false
        dsyncs := 0, polh := false, poll := false, syncs := 0, psyncs := 0, dtr := 0, rate := 0
        cmpb := ⟨0, 0, 0⟩, cmpa := ⟨0, 0, 0⟩, pen := ⟨true, true⟩, inpol := ⟨false, false⟩
        resp := ⟨0, 0⟩, filt := ⟨0, 0⟩, latch := ⟨Config.latchRst .emg, Config.latchRst .ovv⟩
        keyst := ⟨.idle, .idle⟩, fcnt := ⟨0, 0⟩, pgateU := true, pgateL := true, phase := 0
        hold := ⟨0, 0, 0⟩, side := ⟨false, false, false⟩, cnt := ⟨0, 0, 0⟩ }
    response := .none }

/-- R191: what software finds after `RESET`: the word each register reads, CONFIG mode, and all six outputs
at 1. -/
def Obligations.BlockAsSoftwareFindsItAfterReset : Prop :=
  ∀ s t : State, s.gateOpen = true → exec .reset s = .next t →
    (∀ r : Reg, ∃ v, exec r.readInstr t = .next { t with response := .okayData v } ∧
      v = match r with
        | .pom => 2
        | .emgcr => 1
        | .ovvcr => 1
        | .emgsta => if Config.latchRst .emg then 1 else 0
        | .ovvsta => if Config.latchRst .ovv then 1 else 0
        | _ => 0) ∧
    t.chan.mode = .config ∧ t.pins = ⟨true, true, true, true, true, true⟩

/-- R170, R150, R190: no step stops the machine; a bus operation always ends with a response and the next
step starts from the state it left. -/
def Obligations.EveryStepIsAnswered : Prop :=
  (∀ i s, ∃ t, exec i s = .next t) ∧ ∀ s, ∃ t, step s = .next t

/-! ## EN, POM, WFC, OPL, DTR -/

/-- R82, R84: the write that takes `MDEN` from 0 to 1 starts a run. -/
def Obligations.EnablingWriteStartsTheRun : Prop :=
  ∀ (d : Word) (s : State), s.gateOpen = true → s.chan.mden = false → d[0] = true →
    exec (.wrEn d) s = .next { s with
      chan := { s.chan with
        mden := true, phase := 0, cmpa := s.chan.cmpb, hold := ⟨0, 0, 0⟩
        side := ⟨false, false, false⟩, cnt := ⟨s.chan.dtr, s.chan.dtr, s.chan.dtr⟩ }
      response := .okay }

/-- R82, R85: every other write to EN changes `MDEN` and nothing else, and a write of 0 puts all six outputs
at their inactive level in its own step. -/
def Obligations.OtherEnableWritesChangeOnlyMden : Prop :=
  ∀ (d : Word) (s : State), s.gateOpen = true → (s.chan.mden = true ∨ d[0] = false) →
    exec (.wrEn d) s = .next { s with chan := { s.chan with mden := d[0] }, response := .okay } ∧
    (d[0] = false → ∀ t, exec (.wrEn d) s = .next t → t.chan.upperInactive ∧ t.chan.lowerInactive)

/-- R80, R81, R86, R88, R90, R92: in CONFIG mode a write to a locked register stores its fields and nothing
else. -/
def Obligations.LockedRegistersStoreInConfigMode : Prop :=
  ∀ (d : Word) (s : State), s.gateOpen = true → s.chan.mden = false →
    exec (.wrPom d) s = .next { s with
      chan := { s.chan with upmd := d[0], lomd := d[1] }, response := .okay } ∧
    exec (.wrWfc d) s = .next { s with
      chan := { s.chan with
        car := ⟨d.extractLsb' 0 2, d.extractLsb' 2 2, d.extractLsb' 4 2⟩
        dtymd := d[6], dtcren := d[7], dsyncs := d.extractLsb' 8 2 }
      response := .okay } ∧
    exec (.wrOpl d) s = .next { s with
      chan := { s.chan with
        polh := d[0], poll := d[1], syncs := d.extractLsb' 2 2, psyncs := d.extractLsb' 4 2 }
      response := .okay } ∧
    exec (.wrDtr d) s = .next { s with chan := { s.chan with dtr := d }, response := .okay }

/-- R81, R174: in RUN mode the same writes are rejected as a whole. -/
def Obligations.LockedRegistersRejectInRunMode : Prop :=
  ∀ (d : Word) (s : State), s.gateOpen = true → s.chan.mden = true →
    exec (.wrPom d) s = .next { s with response := .error .locked } ∧
    exec (.wrWfc d) s = .next { s with response := .error .locked } ∧
    exec (.wrOpl d) s = .next { s with response := .error .locked } ∧
    exec (.wrDtr d) s = .next { s with response := .error .locked }

/-- R83, R87, R89, R91, R93: the encoding, the word and the examples of the five reads. The hypotheses name
no mode: these reads are never locked. -/
def Obligations.ConfigurationReadsReturnTheirFields : Prop :=
  (∀ data : Word,
    decode (0b10#2 ++ 0b0#1 ++ 0x00#8 ++ data : TxWord) = .ok .rdEn ∧
    decode (0b10#2 ++ 0b0#1 ++ 0x04#8 ++ data : TxWord) = .ok .rdPom ∧
    decode (0b10#2 ++ 0b0#1 ++ 0x08#8 ++ data : TxWord) = .ok .rdWfc ∧
    decode (0b10#2 ++ 0b0#1 ++ 0x0C#8 ++ data : TxWord) = .ok .rdOpl ∧
    decode (0b10#2 ++ 0b0#1 ++ 0x10#8 ++ data : TxWord) = .ok .rdDtr) ∧
  (∀ s : State, s.gateOpen = true →
    exec .rdEn s = .next { s with response := .okayData (BitVec.ofNat 32 s.chan.mden.toNat) } ∧
    exec .rdPom s = .next { s with
      response := .okayData (BitVec.ofNat 32
        (2 * s.chan.lomd.toNat + s.chan.upmd.toNat)) } ∧
    exec .rdWfc s = .next { s with
      response := .okayData (BitVec.ofNat 32
        (256 * s.chan.dsyncs.toNat + 128 * s.chan.dtcren.toNat + 64 * s.chan.dtymd.toNat +
          16 * s.chan.car.w.toNat + 4 * s.chan.car.v.toNat + s.chan.car.u.toNat)) } ∧
    exec .rdOpl s = .next { s with
      response := .okayData (BitVec.ofNat 32
        (16 * s.chan.psyncs.toNat + 4 * s.chan.syncs.toNat + 2 * s.chan.poll.toNat +
          s.chan.polh.toNat)) } ∧
    exec .rdDtr s = .next { s with response := .okayData s.chan.dtr }) ∧
  (∀ s t : State, s.gateOpen = true →
    (exec .reset s = .next t →
      exec .rdEn t = .next { t with response := .okayData 0x00000000 } ∧
      exec .rdPom t = .next { t with response := .okayData 0x00000002 } ∧
      exec .rdDtr t = .next { t with response := .okayData 0x00000000 }) ∧
    (s.chan.mden = false → exec (.wrWfc 0xFFFFFFFF) s = .next t →
      exec .rdWfc t = .next { t with response := .okayData 0x000003FF }) ∧
    (s.chan.mden = false → exec (.wrOpl 0x27) s = .next t →
      exec .rdOpl t = .next { t with response := .okayData 0x00000027 }))

/-! ## RATE, CMPU, CMPV, CMPW -/

/-- R130, R142, R144, R146: a rate or duty write stores all 32 bits, in either mode, and does nothing else;
the active latches are not written. -/
def Obligations.RateAndDutyWritesStoreTheirWord : Prop :=
  ∀ (d : Word) (s : State), s.gateOpen = true →
    exec (.wrRate d) s = .next { s with chan := { s.chan with rate := d }, response := .okay } ∧
    exec (.wrCmpu d) s = .next { s with
      chan := { s.chan with cmpb := ⟨d, s.chan.cmpb.v, s.chan.cmpb.w⟩ }, response := .okay } ∧
    exec (.wrCmpv d) s = .next { s with
      chan := { s.chan with cmpb := ⟨s.chan.cmpb.u, d, s.chan.cmpb.w⟩ }, response := .okay } ∧
    exec (.wrCmpw d) s = .next { s with
      chan := { s.chan with cmpb := ⟨s.chan.cmpb.u, s.chan.cmpb.v, d⟩ }, response := .okay }

/-- R131, R143, R145, R147: the encoding and the word of the four reads; a read just after a write of the
rate returns the word written; the duty of phase U reads 0 after `RESET`. -/
def Obligations.RateAndDutyReadsReturnTheBuffer : Prop :=
  (∀ data : Word,
    decode (0b10#2 ++ 0b0#1 ++ 0x14#8 ++ data : TxWord) = .ok .rdRate ∧
    decode (0b10#2 ++ 0b0#1 ++ 0x18#8 ++ data : TxWord) = .ok .rdCmpu ∧
    decode (0b10#2 ++ 0b0#1 ++ 0x1C#8 ++ data : TxWord) = .ok .rdCmpv ∧
    decode (0b10#2 ++ 0b0#1 ++ 0x20#8 ++ data : TxWord) = .ok .rdCmpw) ∧
  (∀ s : State, s.gateOpen = true →
    exec .rdRate s = .next { s with response := .okayData s.chan.rate } ∧
    exec .rdCmpu s = .next { s with response := .okayData s.chan.cmpb.u } ∧
    exec .rdCmpv s = .next { s with response := .okayData s.chan.cmpb.v } ∧
    exec .rdCmpw s = .next { s with response := .okayData s.chan.cmpb.w }) ∧
  (∀ s t : State, s.gateOpen = true →
    (∀ d, exec (.wrRate d) s = .next t →
      exec .rdRate t = .next { t with response := .okayData d }) ∧
    (exec .reset s = .next t → exec .rdCmpu t = .next { t with response := .okayData 0x00000000 }))

/-! ## EMGCR, OVVCR, EMGREL, OVVREL, EMGSTA, OVVSTA -/

/-- R101, R103: a control write stores the four fields of its path, in either mode, and writes no flag. -/
def Obligations.ControlWritesStoreThePathSettings : Prop :=
  ∀ (d : Word) (s : State), s.gateOpen = true →
    exec (.wrEmgcr d) s = .next { s with
      chan := { s.chan with
        pen := ⟨d[0], s.chan.pen.ovv⟩, inpol := ⟨d[1], s.chan.inpol.ovv⟩
        resp := ⟨d.extractLsb' 2 2, s.chan.resp.ovv⟩, filt := ⟨d.extractLsb' 4 4, s.chan.filt.ovv⟩ }
      response := .okay } ∧
    exec (.wrOvvcr d) s = .next { s with
      chan := { s.chan with
        pen := ⟨s.chan.pen.emg, d[0]⟩, inpol := ⟨s.chan.inpol.emg, d[1]⟩
        resp := ⟨s.chan.resp.emg, d.extractLsb' 2 2⟩, filt := ⟨s.chan.filt.emg, d.extractLsb' 4 4⟩ }
      response := .okay }

/-- R102, R104: the encoding and the word of the control reads, their values after `RESET`, and that `PEN`
reads 0 after a release that cleared a set latch, whatever software last wrote. -/
def Obligations.ControlReadsReturnThePathSettings : Prop :=
  (∀ data : Word,
    decode (0b10#2 ++ 0b0#1 ++ 0x24#8 ++ data : TxWord) = .ok .rdEmgcr ∧
    decode (0b10#2 ++ 0b0#1 ++ 0x28#8 ++ data : TxWord) = .ok .rdOvvcr) ∧
  (∀ s : State, s.gateOpen = true →
    exec .rdEmgcr s = .next { s with
      response := .okayData (BitVec.ofNat 32
        (16 * s.chan.filt.emg.toNat + 4 * s.chan.resp.emg.toNat +
          2 * s.chan.inpol.emg.toNat + s.chan.pen.emg.toNat)) } ∧
    exec .rdOvvcr s = .next { s with
      response := .okayData (BitVec.ofNat 32
        (16 * s.chan.filt.ovv.toNat + 4 * s.chan.resp.ovv.toNat +
          2 * s.chan.inpol.ovv.toNat + s.chan.pen.ovv.toNat)) }) ∧
  (∀ s t : State, s.gateOpen = true →
    (exec .reset s = .next t →
      exec .rdEmgcr t = .next { t with response := .okayData 0x00000001 } ∧
      exec .rdOvvcr t = .next { t with response := .okayData 0x00000001 }) ∧
    (s.chan.latch.emg = true → s.chan.keyst.emg = .k1 → exec (.wrEmgrel 0xA5) s = .next t →
      ∃ v : Word, exec .rdEmgcr t = .next { t with response := .okayData v } ∧ v[0] = false))

/-- R111, R112, R113, R114: what a key write does to each path, case by case: the first key, the second key
after the first with the latch set or clear, and any other word. -/
def Obligations.KeyWritesStepTheSequencer : Prop :=
  ∀ (v : Word) (s : State), s.gateOpen = true →
    exec (.wrEmgrel v) s = .next { s with
      chan :=
        if v = 0x5A then { s.chan with keyst := ⟨.k1, s.chan.keyst.ovv⟩ }
        else if v = 0xA5 ∧ s.chan.keyst.emg = .k1 ∧ s.chan.latch.emg = true then
          { s.chan with
            keyst := ⟨.idle, s.chan.keyst.ovv⟩, latch := ⟨false, s.chan.latch.ovv⟩
            pen := ⟨false, s.chan.pen.ovv⟩ }
        else { s.chan with keyst := ⟨.idle, s.chan.keyst.ovv⟩ }
      response := .okay } ∧
    exec (.wrOvvrel v) s = .next { s with
      chan :=
        if v = 0x5A then { s.chan with keyst := ⟨s.chan.keyst.emg, .k1⟩ }
        else if v = 0xA5 ∧ s.chan.keyst.ovv = .k1 ∧ s.chan.latch.ovv = true then
          { s.chan with
            keyst := ⟨s.chan.keyst.emg, .idle⟩, latch := ⟨s.chan.latch.emg, false⟩
            pen := ⟨s.chan.pen.emg, false⟩ }
        else { s.chan with keyst := ⟨s.chan.keyst.emg, .idle⟩ }
      response := .okay }

/-- R115, R116: a read of a key port returns 0 and changes nothing, and between the two key writes it does
not disturb the sequence. -/
def Obligations.KeyPortReadsReturnZero : Prop :=
  (∀ data : Word,
    decode (0b10#2 ++ 0b0#1 ++ 0x2C#8 ++ data : TxWord) = .ok .rdEmgrel ∧
    decode (0b10#2 ++ 0b0#1 ++ 0x30#8 ++ data : TxWord) = .ok .rdOvvrel) ∧
  (∀ s : State, s.gateOpen = true →
    exec .rdEmgrel s = .next { s with response := .okayData 0x00000000 } ∧
    exec .rdOvvrel s = .next { s with response := .okayData 0x00000000 }) ∧
  (∀ s t u : State, s.gateOpen = true → s.chan.keyst.emg = .k1 → exec .rdEmgrel s = .next t →
    exec (.wrEmgrel 0xA5) t = .next u → u.chan.latch.emg = false ∧ u.chan.keyst.emg = .idle)

/-- R117, R119: a status write is accepted and changes nothing, so that it neither sets nor clears a
latch. -/
def Obligations.StatusWritesAreIgnored : Prop :=
  (∀ data : Word,
    decode (0b10#2 ++ 0b1#1 ++ 0x34#8 ++ data : TxWord) = .ok (.wrEmgsta data) ∧
    decode (0b10#2 ++ 0b1#1 ++ 0x38#8 ++ data : TxWord) = .ok (.wrOvvsta data)) ∧
  (∀ (d : Word) (s : State), s.gateOpen = true →
    exec (.wrEmgsta d) s = .next { s with response := .okay } ∧
    exec (.wrOvvsta d) s = .next { s with response := .okay }) ∧
  (∀ s t : State, s.gateOpen = true → s.chan.latch.emg = true → exec (.wrEmgsta 0x0) s = .next t →
    exec .rdEmgsta t = .next { t with response := .okayData 0x00000001 })

/-- R118, R120: a status read returns the latch and changes nothing: 1 when the path has tripped. -/
def Obligations.StatusReadsReturnTheLatch : Prop :=
  (∀ data : Word,
    decode (0b10#2 ++ 0b0#1 ++ 0x34#8 ++ data : TxWord) = .ok .rdEmgsta ∧
    decode (0b10#2 ++ 0b0#1 ++ 0x38#8 ++ data : TxWord) = .ok .rdOvvsta) ∧
  (∀ s : State, s.gateOpen = true →
    exec .rdEmgsta s = .next { s with response := .okayData (BitVec.ofNat 32 s.chan.latch.emg.toNat) } ∧
    exec .rdOvvsta s = .next { s with response := .okayData (BitVec.ofNat 32 s.chan.latch.ovv.toNat) } ∧
    (s.chan.latch.ovv = true →
      exec .rdOvvsta s = .next { s with response := .okayData 0x00000001 }))

/-! ## TICK -/

/-- R105, R107: T1 for each path, in both modes. -/
def Obligations.TickRunsTheTripFilter : Prop :=
  ∀ (e o : Bool) (y : SyncLevels) (s : State), s.gateOpen = true →
    ∃ t, exec (.tick e o y) s = .next t ∧ ∀ p,
      let level := match p with
        | .emg => e
        | .ovv => o
      let active := s.chan.pen.get p = true ∧ level = s.chan.inpol.get p
      let count := (s.chan.fcnt.get p).toNat
      (active → (s.chan.filt.get p).toNat ≤ count →
        t.chan.latch.get p = true ∧ (t.chan.fcnt.get p).toNat = count) ∧
      (active → count < (s.chan.filt.get p).toNat →
        t.chan.latch.get p = s.chan.latch.get p ∧ (t.chan.fcnt.get p).toNat = count + 1) ∧
      (¬active → t.chan.latch.get p = s.chan.latch.get p ∧ (t.chan.fcnt.get p).toNat = 0)

/-- R133, R22, R150: the accumulator advances by `RATE[23:0]` modulo `2^24` in RUN mode and is frozen in
CONFIG mode. -/
def Obligations.TickAdvancesTheCarrier : Prop :=
  ∀ (e o : Bool) (y : SyncLevels) (s : State), s.gateOpen = true →
    ∃ t, exec (.tick e o y) s = .next t ∧
      (s.chan.mden = true →
        t.chan.phase.toNat = (s.chan.phase.toNat + s.chan.rate.toNat % 2 ^ 24) % 2 ^ 24) ∧
      (s.chan.mden = false → t.chan.phase = s.chan.phase)

/-- R139, R140, R150: in RUN mode the three duty latches load together on the event `DSYNCS` selects, and
otherwise keep their values. -/
def Obligations.TickLoadsTheDutyLatches : Prop :=
  ∀ (e o : Bool) (y : SyncLevels) (s : State), s.gateOpen = true →
    ∃ t, exec (.tick e o y) s = .next t ∧
      let sum := s.chan.phase.toNat + s.chan.rate.toNat % 2 ^ 24
      let finish := 2 ^ 24 ≤ sum
      let centre := s.chan.phase.toNat < 2 ^ 23 ∧ 2 ^ 23 ≤ sum
      let event := s.chan.dsyncs = 0b00#2 ∨ (s.chan.dsyncs = 0b01#2 ∧ centre) ∨
        (s.chan.dsyncs = 0b10#2 ∧ finish) ∨ (s.chan.dsyncs = 0b11#2 ∧ (centre ∨ finish))
      (s.chan.mden = true ∧ event → t.chan.cmpa = s.chan.cmpb) ∧
      (¬(s.chan.mden = true ∧ event) → t.chan.cmpa = s.chan.cmpa)

/-- R137, R141, R154, R155: T4 and T5 for each phase: the raw PWM of the tick compares the carrier at the
new phase with the duty as just latched, the stretcher and the inserter follow it. In CONFIG mode the
dead-time state is frozen (R150). -/
def Obligations.TickRunsTheDeadTimeUnit : Prop :=
  ∀ (e o : Bool) (y : SyncLevels) (s : State), s.gateOpen = true →
    ∃ t, exec (.tick e o y) s = .next t ∧
      (s.chan.mden = false →
        t.chan.hold = s.chan.hold ∧ t.chan.side = s.chan.side ∧ t.chan.cnt = s.chan.cnt) ∧
      (s.chan.mden = true → ∀ x,
        let duty := if s.chan.dtymd then t.chan.cmpa.get x else t.chan.cmpa.u
        let raw := (carrier (s.chan.car.get x) t.chan.phase).toNat < duty.toNat
        let hold := s.chan.hold.get x
        let hold' := t.chan.hold.get x
        let side := s.chan.side.get x
        let side' := t.chan.side.get x
        let cnt := s.chan.cnt.get x
        let cnt' := t.chan.cnt.get x
        (s.chan.dtcren = true → raw → hold' = s.chan.dtr ∧ side' = true) ∧
        (s.chan.dtcren = true → ¬raw → hold ≠ 0 → hold' = hold - 1 ∧ side' = true) ∧
        (s.chan.dtcren = true → ¬raw → hold = 0 → hold' = 0 ∧ side' = false) ∧
        (s.chan.dtcren = false → hold' = 0 ∧ (side' = true ↔ raw)) ∧
        (side' ≠ side → cnt' = s.chan.dtr) ∧
        (side' = side → cnt ≠ 0 → cnt' = cnt - 1) ∧
        (side' = side → cnt = 0 → cnt' = 0))

/-- R109, R110: T6. A pin group is forced from the tick a latch whose response mode names it is set, and
released only on an update event: any tick in CONFIG mode, the event `PSYNCS` selects, or a pulse of the
selected synchronisation input. -/
def Obligations.TickUpdatesTheProtectionBuffer : Prop :=
  ∀ (e o : Bool) (y : SyncLevels) (s : State), s.gateOpen = true →
    ∃ t, exec (.tick e o y) s = .next t ∧
      let c := s.chan
      let sum := c.phase.toNat + c.rate.toNat % 2 ^ 24
      let finish := 2 ^ 24 ≤ sum
      let centre := c.phase.toNat < 2 ^ 23 ∧ 2 ^ 23 ≤ sum
      let update := c.mden = false ∨ c.psyncs = 0b00#2 ∨ (c.psyncs = 0b01#2 ∧ centre) ∨
        (c.psyncs = 0b10#2 ∧ finish) ∨ (c.psyncs = 0b11#2 ∧ (centre ∨ finish)) ∨
        (c.syncs = 0b01#2 ∧ y[0] = true) ∨ (c.syncs = 0b10#2 ∧ y[1] = true) ∨
        (c.syncs = 0b11#2 ∧ y[2] = true)
      let wantU := ∃ p, t.chan.latch.get p = true ∧ c.resp.get p ≠ 0b10#2
      let wantL := ∃ p, t.chan.latch.get p = true ∧ c.resp.get p ≠ 0b01#2
      (t.chan.pgateU = true ↔ wantU ∨ (c.pgateU = true ∧ ¬update)) ∧
      (t.chan.pgateL = true ↔ wantL ∨ (c.pgateL = true ∧ ¬update))

/-- R151: what a `TICK` never changes. -/
def Obligations.TickLeavesTheConfigurationAlone : Prop :=
  ∀ (e o : Bool) (y : SyncLevels) (s : State), s.gateOpen = true →
    ∃ t, exec (.tick e o y) s = .next t ∧ SameLocked s.chan t.chan ∧
      t.chan.mden = s.chan.mden ∧ t.chan.rate = s.chan.rate ∧ t.chan.cmpb = s.chan.cmpb ∧
      t.chan.pen = s.chan.pen ∧ t.chan.inpol = s.chan.inpol ∧ t.chan.resp = s.chan.resp ∧
      t.chan.filt = s.chan.filt ∧ t.chan.keyst = s.chan.keyst ∧
      (∀ p, s.chan.latch.get p = true → t.chan.latch.get p = true) ∧
      t.gateOpen = s.gateOpen ∧ t.pending = s.pending ∧ t.draws = s.draws ∧ t.response = .none

/-- R108, R178: a trip changes nothing but the latch and the buffer: the carrier, the duty latches and the
dead-time state after a `TICK` do not depend on the levels it samples. -/
def Obligations.TripsDoNotDisturbTheRun : Prop :=
  ∀ (e o e' o' : Bool) (y y' : SyncLevels) (s t u : State),
    exec (.tick e o y) s = .next t → exec (.tick e' o' y') s = .next u →
    t.chan.phase = u.chan.phase ∧ t.chan.cmpa = u.chan.cmpa ∧ t.chan.hold = u.chan.hold ∧
    t.chan.side = u.chan.side ∧ t.chan.cnt = u.chan.cnt

/-! ## Carrier, comparator, dead time and outputs -/

/-- R136: the four carrier shapes as numbers. -/
def Obligations.CarrierShapesFollowTheirFormulas : Prop :=
  ∀ phase : PhaseAcc,
    let n := phase.toNat
    let ramp := n % 2 ^ 23 / 2 ^ 8
    (carrier 0b00 phase).toNat = n / 2 ^ 9 ∧
    (carrier 0b01 phase).toNat = (if n < 2 ^ 23 then ramp else 0x7FFF - ramp) ∧
    (carrier 0b10 phase).toNat = 0x7FFF - n / 2 ^ 9 ∧
    (carrier 0b11 phase).toNat = (if n < 2 ^ 23 then 0x7FFF - ramp else ramp)

/-- R138: of the `2^24` phase values exactly `min(d, DUTY_FULL) * 2^9` have `r = 1`, for every carrier shape:
the fraction is `min(d, DUTY_FULL) / DUTY_FULL`. -/
def Obligations.DutyFractionIsExact : Prop :=
  ∀ (shape : Code) (d : Word),
    ((Finset.range (2 ^ 24)).filter
      (fun n => below (carrier shape (BitVec.ofNat 24 n)) d = true)).card =
      min d.toNat 0x8000 * 2 ^ 9

/-- R134: over any run of clock edges in RUN mode the number of `ev_end` ticks is the exact quotient of the
phase travelled by `2^24`. -/
def Obligations.CarrierEndsCountThePeriods : Prop :=
  ∀ (c : Channel) (levels : List TickLevels), c.mden = true →
    c.carrierEnds levels = (c.phase.toNat + levels.length * (c.rate.toNat % 2 ^ 24)) / 2 ^ 24

/-- R135: with `PHASE = 0` at the start and `RATE[23:0] = 2^24 / n` for an even `n`, tick `k` has
`ev_end = 1` exactly when `n` divides `k`, and `ev_ctr = 1` exactly when `k` leaves `n/2` modulo `n`. -/
def Obligations.CarrierEventsFallWhereStated : Prop :=
  ∀ (c : Channel) (levels : List TickLevels) (n : Nat), c.mden = true → c.phase = 0 → n % 2 = 0 →
    c.rate.toNat % 2 ^ 24 * n = 2 ^ 24 →
    let before := c.ticks levels
    let k := levels.length + 1
    (before.evEnd = true ↔ k % n = 0) ∧ (before.evCtr = true ↔ k % n = n / 2)

/-- R156, R158: the plain and the complementary on-command of a phase are never both 1, in any state, and so
the two switches of a phase are never commanded on together while the port-output mode routes different
commands to the two groups. -/
def Obligations.NoShootThrough : Prop :=
  ∀ (c : Channel) (x : Phase),
    ¬(c.plainOn x = true ∧ c.compOn x = true) ∧
    (c.upmd ≠ c.lomd → ¬(c.upperOn x = true ∧ c.lowerOn x = true))

/-- R156, R158, R159, R160, R161: each of the six outputs is at its active level exactly when the channel is
enabled, its group is not forced off and the command its group takes is on. -/
def Obligations.OutputsFollowMuxGateAndPolarity : Prop :=
  ∀ c : Channel,
    let upper (x : Phase) := c.mden = true ∧ c.pgateU = false ∧ c.cnt.get x = 0 ∧
      c.side.get x = !c.upmd
    let lower (x : Phase) := c.mden = true ∧ c.pgateL = false ∧ c.cnt.get x = 0 ∧
      c.side.get x = !c.lomd
    (c.pins.uh = c.polh ↔ upper .u) ∧ (c.pins.vh = c.polh ↔ upper .v) ∧ (c.pins.wh = c.polh ↔ upper .w) ∧
    (c.pins.ul = c.poll ↔ lower .u) ∧ (c.pins.vl = c.poll ↔ lower .v) ∧ (c.pins.wl = c.poll ↔ lower .w)

/-- R153, R155: over any run of clock edges in RUN mode, between a state with one command of a phase on and
a state with the other on there are at least `DTR + 1` ticks: the tick of the change and `DTR` ticks with
both off. -/
def Obligations.DeadTimeSeparatesTheCommands : Prop :=
  ∀ (c : Channel) (x : Phase) (levels : List TickLevels), c.mden = true →
    (c.plainOn x = true → (c.ticks levels).compOn x = true → c.dtr.toNat + 1 ≤ levels.length) ∧
    (c.compOn x = true → (c.ticks levels).plainOn x = true → c.dtr.toNat + 1 ≤ levels.length)

/-- R84, R210: after the write that enables the channel no on-command is 1 until `DTR` ticks have run. -/
def Obligations.EnableWaitsAFullDeadTime : Prop :=
  ∀ (d : Word) (s t : State) (x : Phase) (levels : List TickLevels), s.gateOpen = true →
    s.chan.mden = false → d[0] = true → exec (.wrEn d) s = .next t →
    levels.length < s.chan.dtr.toNat →
    (t.chan.ticks levels).plainOn x = false ∧ (t.chan.ticks levels).compOn x = false

/-- R154: with the correction on, after a tick with the raw PWM at 1 the stretched signal stays 1 for exactly
`DTR` further ticks with the raw PWM at 0. -/
def Obligations.CorrectionStretchesByDtrTicks : Prop :=
  ∀ (dtr hold : Word) (n : Nat),
    stretched true false ((stretchHold true false dtr)^[n] (stretchHold true true dtr hold)) =
      decide (n < dtr.toNat)

/-- R106: on an armed path with a clear count and a clear latch, after `n` consecutive active samples the
latch is set exactly when `n` is at least `FILT + 1`. -/
def Obligations.FilterLatchesAfterItsCount : Prop :=
  ∀ (p : Path) (c : Channel) (levels : List TickLevels), c.pen.get p = true → c.fcnt.get p = 0 →
    c.latch.get p = false → (∀ l ∈ levels, tripLevel l.emgIn l.ovvIn p = c.inpol.get p) →
    (c.ticks levels).latch.get p = decide ((c.filt.get p).toNat + 1 ≤ levels.length)

/-! ## Whole-machine rules -/

/-- R81, R84, R109, R110, R154, R155: every step of every agent keeps the invariant of the channel: a set
latch forces a pin group off, and in RUN mode the dead-time counters stay at or below `DTR`, the stretch
counters at 0 without correction. -/
def Obligations.EveryStepKeepsTheInvariant : Prop :=
  ∀ s t : State, s.chan.Inv → step s = .next t → t.chan.Inv

/-- R30: the invariant holds at power-on, whatever `LATCH_RST` is. -/
def Obligations.InvariantHoldsAtPowerOn : Prop :=
  State.reset.chan.Inv

/-- R13, R113, R190: a step that clears a latch is the second key of a release sequence on that path with
the sequencer at `K1`, or a `RESET` with `LATCH_RST = 0`; the release also disarms the path. -/
def Obligations.LatchIsClearedOnlyByReleaseOrReset : Prop :=
  ∀ (p : Path) (s t : State), step s = .next t → s.chan.latch.get p = true →
    t.chan.latch.get p = false →
    (nextRequest s = .reset ∧ Config.latchRst p = false) ∨
    (s.gateOpen = true ∧ decodeRequest (nextRequest s) = some (writeKey p Config.key2) ∧
      s.chan.keyst.get p = .k1 ∧ t.chan.pen.get p = false)

/-- R108, R105: a step that sets a latch is a clock edge that samples the armed path's input at its active
level with the filter count reached, or a `RESET` with `LATCH_RST = 1`; no bus operation sets one. -/
def Obligations.LatchIsSetOnlyByATripOrReset : Prop :=
  ∀ (p : Path) (s t : State), step s = .next t → s.chan.latch.get p = false →
    t.chan.latch.get p = true →
    (nextRequest s = .reset ∧ Config.latchRst p = true) ∨
    (∃ e o y, nextRequest s = .tick e o y ∧ s.gateOpen = true ∧ s.chan.pen.get p = true ∧
      tripLevel e o p = s.chan.inpol.get p ∧ (s.chan.filt.get p).toNat ≤ (s.chan.fcnt.get p).toNat)

/-- R121: over any sequence of requests with the clock gate left open, no `RESET` and no `KEY1` followed at
once by `KEY2` among the words written to the path's REL register, a set latch stays set. -/
def Obligations.LatchPersistsWithoutTheKeys : Prop :=
  ∀ (p : Path) (rs : List Request) (s t : State), s.gateOpen = true → s.chan.latch.get p = true →
    s.chan.keyst.get p = .idle → (∀ r ∈ rs, r ≠ .reset ∧ ∀ b, r ≠ .clkGate b) →
    ¬([Config.key1, Config.key2] <:+: keysWritten p rs) → serveAll rs s = .next t →
    t.chan.latch.get p = true

/-- R112, R122: the two key writes leave the latch clear and the sequencer idle whatever other steps fall
between them, as long as none of them is a `RESET`, a move of the clock gate or a write to the same REL
register; and a path that was latched is left disarmed. -/
def Obligations.TwoKeysReleaseThroughAnyWait : Prop :=
  ∀ (p : Path) (wait : List Request) (s : State), s.gateOpen = true →
    (∀ r ∈ wait, r ≠ .reset ∧ ∀ b, r ≠ .clkGate b) → keysWritten p wait = [] →
    ∃ t, serveAll (releaseKeys p wait) s = .next t ∧ t.chan.latch.get p = false ∧
      t.chan.keyst.get p = .idle ∧ (s.chan.latch.get p = true → t.chan.pen.get p = false)

/-- R14, R184: the mode changes only by a write to EN with the bit of the new mode, or by a `RESET`; no trip
and no other step changes it. -/
def Obligations.ModeChangesOnlyByEnableOrReset : Prop :=
  ∀ s t : State, step s = .next t → t.chan.mden ≠ s.chan.mden →
    nextRequest s = .reset ∨
    ∃ d : Word, decodeRequest (nextRequest s) = some (.wrEn d) ∧ d[0] = t.chan.mden

/-- R81: while the channel stays in RUN mode no step changes POM, WFC, OPL or DTR. -/
def Obligations.RunModeLocksTheConfiguration : Prop :=
  ∀ s t : State, step s = .next t → s.chan.mden = true → t.chan.mden = true →
    SameLocked s.chan t.chan

/-- R24, R112: only a write to a path's REL register and `RESET` move its key sequencer. -/
def Obligations.SequencerMovesOnlyByItsRegister : Prop :=
  ∀ (p : Path) (s t : State), step s = .next t → t.chan.keyst.get p ≠ s.chan.keyst.get p →
    nextRequest s = .reset ∨ ∃ v, decodeRequest (nextRequest s) = some (writeKey p v)

/-- R100, R177: the paths do not interact: what a step leaves in every element of one path depends on that
path's elements and the request, not on the other path or on the rest of the channel. -/
def Obligations.PathsDoNotInteract : Prop :=
  ∀ (p : Path) (s t s' t' : State), SamePath p s.chan t.chan → s.gateOpen = t.gateOpen →
    s.pending = t.pending → s.draws = t.draws → step s = .next s' → step t = .next t' →
    SamePath p s'.chan t'.chan ∧ s'.gateOpen = t'.gateOpen ∧ s'.pending = t'.pending ∧
      s'.draws = t'.draws

/-- R85: in CONFIG mode `PHASE`, `CMPA`, `HOLD`, `SIDE` and `CNT` are unobservable: two machines that differ
in nothing else give the same response and the same outputs to any step, and stay alike, until a step leaves
them equal. -/
def Obligations.RunStateIsUnobservableInConfigMode : Prop :=
  ∀ s t s' t' : State, s.chan.mden = false → SameButRunState s.chan t.chan → s.gateOpen = t.gateOpen →
    s.pending = t.pending → s.draws = t.draws → step s = .next s' → step t = .next t' →
    s'.response = t'.response ∧ s'.pins = t'.pins ∧ s'.gateOpen = t'.gateOpen ∧
      s'.pending = t'.pending ∧ s'.draws = t'.draws ∧
      (s'.chan = t'.chan ∨ (s'.chan.mden = false ∧ SameButRunState s'.chan t'.chan))

/-- R108, R110, R121: after any `TICK`, while a latch is set every pin group its response mode names is at
its inactive level. -/
def Obligations.LatchedPathForcesItsGroupsOff : Prop :=
  ∀ (e o : Bool) (y : SyncLevels) (s t : State) (p : Path), s.gateOpen = true →
    exec (.tick e o y) s = .next t → t.chan.latch.get p = true →
    (t.chan.resp.get p ≠ 0b10#2 → t.chan.upperInactive) ∧
    (t.chan.resp.get p ≠ 0b01#2 → t.chan.lowerInactive)

/-- R44: no read changes a state element. -/
def Obligations.ReadsHaveNoSideEffect : Prop :=
  ∀ (r : Reg) (s : State), s.gateOpen = true →
    ∃ v, exec r.readInstr s = .next { s with response := .okayData v }

/-- R49, R73: a read after an accepted write to a read-write register returns the word written under the
register's field mask. -/
def Obligations.ReadBackIsMasked : Prop :=
  ∀ (r : Reg) (v : Word) (s : State), s.gateOpen = true →
    r ∉ [Reg.emgrel, Reg.ovvrel, Reg.emgsta, Reg.ovvsta] →
    (r ∈ [Reg.pom, Reg.wfc, Reg.opl, Reg.dtr] → s.chan.mden = false) →
    ∃ t, exec (r.writeInstr v) s = .next t ∧ t.response = .okay ∧
      exec r.readInstr t = .next { t with response := .okayData (v &&& fieldMask r) }

/-- R46: writing the same word twice in a row leaves the state that writing it once leaves, for every
register but the two key ports. -/
def Obligations.RepeatedWriteIsIdempotent : Prop :=
  ∀ (r : Reg) (v : Word) (s t : State), r ≠ .emgrel → r ≠ .ovvrel →
    exec (r.writeInstr v) s = .next t → exec (r.writeInstr v) t = .next t

/-- R170, R172, R173: a word that is no operation on a register is refused as a whole with its error code,
`BADACCESS` before `UNMAPPED`, and no state element changes. -/
def Obligations.IllegalOperationsRaiseTheirError : Prop :=
  ∀ (s : State) (t : TxWord) (rest : List Request), s.pending = .bus t :: rest → s.gateOpen = true →
    let sz := t.extractLsb' 41 2
    let off := (t.extractLsb' 32 8).toNat
    (sz ≠ 0b10#2 ∨ off % 4 ≠ 0 →
      step s = .next { s with pending := rest, response := .error .badAccess }) ∧
    (sz = 0b10#2 → off % 4 = 0 → 0x38 < off →
      step s = .next { s with pending := rest, response := .error .unmapped })

/-- R171 (with R72): the number of the response to any transaction word, its causes in the order of their
priority; 0 stands for `OKAY`. -/
def Obligations.ErrorResponsesCarryTheirNumber : Prop :=
  ∀ (s : State) (t : TxWord), s.gateOpen = true →
    let sz := t.extractLsb' 41 2
    let off := (t.extractLsb' 32 8).toNat
    ∃ u, serve (.bus t) s = .next u ∧ u.response.number = some
      (if sz ≠ 0b10#2 ∨ off % 4 ≠ 0 then 2
       else if 0x38 < off then 1
       else if t[40] = true ∧ off ∈ [0x04, 0x08, 0x0C, 0x10] ∧ s.chan.mden = true then 3
       else 0)

/-- R52: while the clock gate is closed no bus word and no clock edge changes the channel; a write returns
`OKAY`, a read `OKAY` with some word. That a word which is no operation on a register is answered the same
way is the model's reading (notes/assumptions/8.md, DEDUCED). -/
def Obligations.ClosedClockGateHidesTheBlock : Prop :=
  ∀ s : State, s.gateOpen = false →
    (∀ w : TxWord, ∃ t, serve (.bus w) s = .next t ∧ t.chan = s.chan ∧ t.gateOpen = false ∧
      t.pending = s.pending ∧ (w[40] = true → t.response = .okay ∧ t.draws = s.draws) ∧
      (w[40] = false → ∃ v, t.response = .okayData v)) ∧
    ∀ e o y, exec (.tick e o y) s = .next { s with response := .none }

/-! ## The states of a path and the calls of the software interface -/

/-- R100: the rows of the table and how each is entered. A path is exactly one of armed, tripped and released;
latched and disarmed is tripped with `PEN = 0`. `RESET` leaves both paths unconfigured, with the reset settings
and the latch at `LATCH_RST`. A write to the control register arms or releases a path whose latch is clear, and
leaves a latched path tripped, disarmed where it clears `PEN`. An armed path is tripped by a `TICK` that samples
it active with its count reached. The second key releases a tripped path. -/
def Obligations.PathStatesAreEnteredAsTabled : Prop :=
  ∀ (p : Path) (s : State), s.gateOpen = true →
    ((s.chan.inPathState p .tripped = true ↔
        s.chan.inPathState p .armed = false ∧ s.chan.inPathState p .released = false) ∧
      ¬(s.chan.inPathState p .armed = true ∧ s.chan.inPathState p .released = true) ∧
      (s.chan.inPathState p .latchedDisarmed = true ↔
        s.chan.inPathState p .tripped = true ∧ s.chan.pen.get p = false)) ∧
    (∃ t, exec .reset s = .next t ∧ t.chan.inPathState p .unconfigured = true) ∧
    (∀ d : Word, ∃ t, exec (writeControl p d) s = .next t ∧
      t.chan.inPathState p .tripped = s.chan.inPathState p .tripped ∧
      (s.chan.inPathState p .tripped = false → d[0] = true → t.chan.inPathState p .armed = true) ∧
      (s.chan.inPathState p .tripped = false → d[0] = false → t.chan.inPathState p .released = true) ∧
      (s.chan.inPathState p .tripped = true → d[0] = false →
        t.chan.inPathState p .latchedDisarmed = true)) ∧
    (∀ e o y, s.chan.inPathState p .armed = true → tripLevel e o p = s.chan.inpol.get p →
      (s.chan.filt.get p).toNat ≤ (s.chan.fcnt.get p).toNat →
      ∃ t, exec (.tick e o y) s = .next t ∧ t.chan.inPathState p .tripped = true) ∧
    (s.chan.inPathState p .tripped = true → s.chan.keyst.get p = .k1 →
      ∃ t, exec (writeKey p Config.key2) s = .next t ∧ t.chan.inPathState p .released = true)

/-- R76, R118: `getProtectionStatus` answers `Tripped` exactly when the path is tripped, and changes nothing. -/
def Obligations.ProtectionStatusTellsWhetherThePathTripped : Prop :=
  ∀ (p : Path) (s : State), s.gateOpen = true →
    ∃ t, exec (getProtectionStatus p) s = .next t ∧ t = { s with response := t.response } ∧
      t.protectionStatus = some (if s.chan.inPathState p .tripped then .tripped else .ok)

/-- R76, R113: `releaseProtection` with any number of clock edges between the keys leaves the path released,
its sequencer idle and its other three settings as they were, from any state, tripped or not. -/
def Obligations.ReleaseProtectionLeavesThePathReleased : Prop :=
  ∀ (p : Path) (wait : List Request) (s : State), s.gateOpen = true →
    (∀ r ∈ wait, ∃ e o y, r = .tick e o y) →
    ∃ t, releaseProtection p wait s = .next t ∧ t.chan.inPathState p .released = true ∧
      t.chan.keyst.get p = .idle ∧ t.chan.inpol.get p = s.chan.inpol.get p ∧
      t.chan.resp.get p = s.chan.resp.get p ∧ t.chan.filt.get p = s.chan.filt.get p

/-- R76, R94, R196: `initChannel` in CONFIG mode, whatever the latches and the gate are before it: the
waveform settings of the source, both paths released, the channel disabled with all six outputs at 0, and the
registers that the source never writes as they were; the next `TICK`, whatever it samples, leaves neither pin
group forced. That the gate is opened by the request `clkGate` is the model's choice (notes/assumptions/6.md). -/
def Obligations.InitialisationEndsReleasedAndDisabled : Prop :=
  ∀ (waitEmg waitOvv : List Request) (s : State), WaveformPrecondition s →
    (∀ r ∈ waitEmg ++ waitOvv, ∃ e o y, r = .tick e o y) →
    ∃ t, initChannel waitEmg waitOvv s = .next t ∧ t.gateOpen = true ∧ t.chan.mden = false ∧
      t.chan.wfcWord = 0x000001D5 ∧ t.chan.oplWord = 0x00000027 ∧
      (∀ p, t.chan.inPathState p .released = true ∧ t.chan.keyst.get p = .idle) ∧
      t.pins = ⟨false, false, false, false, false, false⟩ ∧
      t.chan.upmd = s.chan.upmd ∧ t.chan.lomd = s.chan.lomd ∧ t.chan.dtr = s.chan.dtr ∧
      t.chan.rate = s.chan.rate ∧ t.chan.cmpb = s.chan.cmpb ∧
      ∀ e o y, ∃ u, exec (.tick e o y) t = .next u ∧ u.chan.pgateU = false ∧ u.chan.pgateL = false
end

