-- ==== Sys2Proof/Laws/State.lean ====
section
/-! SUPPORT. What each update of the state leaves in each field, one lemma per field per update, true by
`rfl`; the tables below let a proof read a field through any update without unfolding it. -/

namespace Sys2Proof.Machine

/-! ## Per-phase and per-path elements -/

@[simp] theorem PerPhase.get_u {α : Type} (m : PerPhase α) : m.get .u = m.u := rfl
@[simp] theorem PerPhase.set_u_u {α : Type} (m : PerPhase α) (a : α) : (m.set .u a).u = a := rfl
@[simp] theorem PerPhase.set_u_v {α : Type} (m : PerPhase α) (a : α) : (m.set .u a).v = m.v := rfl
@[simp] theorem PerPhase.set_u_w {α : Type} (m : PerPhase α) (a : α) : (m.set .u a).w = m.w := rfl
@[simp] theorem PerPhase.tabulate_u {α : Type} (f : Phase → α) : (PerPhase.tabulate f).u = f .u := rfl
@[simp] theorem PerPhase.get_v {α : Type} (m : PerPhase α) : m.get .v = m.v := rfl
@[simp] theorem PerPhase.set_v_u {α : Type} (m : PerPhase α) (a : α) : (m.set .v a).u = m.u := rfl
@[simp] theorem PerPhase.set_v_v {α : Type} (m : PerPhase α) (a : α) : (m.set .v a).v = a := rfl
@[simp] theorem PerPhase.set_v_w {α : Type} (m : PerPhase α) (a : α) : (m.set .v a).w = m.w := rfl
@[simp] theorem PerPhase.tabulate_v {α : Type} (f : Phase → α) : (PerPhase.tabulate f).v = f .v := rfl
@[simp] theorem PerPhase.get_w {α : Type} (m : PerPhase α) : m.get .w = m.w := rfl
@[simp] theorem PerPhase.set_w_u {α : Type} (m : PerPhase α) (a : α) : (m.set .w a).u = m.u := rfl
@[simp] theorem PerPhase.set_w_v {α : Type} (m : PerPhase α) (a : α) : (m.set .w a).v = m.v := rfl
@[simp] theorem PerPhase.set_w_w {α : Type} (m : PerPhase α) (a : α) : (m.set .w a).w = a := rfl
@[simp] theorem PerPhase.tabulate_w {α : Type} (f : Phase → α) : (PerPhase.tabulate f).w = f .w := rfl

@[simp] theorem PerPhase.get_tabulate {α : Type} (f : Phase → α) (i : Phase) : (PerPhase.tabulate f).get i = f i := by
  cases i <;> rfl

@[simp] theorem PerPhase.get_set_same {α : Type} (m : PerPhase α) (i : Phase) (a : α) : (m.set i a).get i = a := by
  cases i <;> rfl

theorem PerPhase.get_set_ne {α : Type} (m : PerPhase α) {i j : Phase} (a : α) (h : j ≠ i) :
    (m.set i a).get j = m.get j := by
  cases i <;> cases j <;> first | rfl | exact absurd rfl h

theorem PerPhase.get_set {α : Type} (m : PerPhase α) (i j : Phase) (a : α) :
    (m.set i a).get j = if j = i then a else m.get j := by
  cases i <;> cases j <;> rfl

@[simp] theorem PerPhase.set_get {α : Type} (m : PerPhase α) (i : Phase) : m.set i (m.get i) = m := by
  cases i <;> rfl

theorem PerPhase.ext_get {α : Type} {m n : PerPhase α} (h : ∀ i, m.get i = n.get i) : m = n := by
  cases m; cases n; simp only [PerPhase.mk.injEq]; exact ⟨h .u, h .v, h .w⟩

@[simp] theorem PerPath.get_emg {α : Type} (m : PerPath α) : m.get .emg = m.emg := rfl
@[simp] theorem PerPath.set_emg_emg {α : Type} (m : PerPath α) (a : α) : (m.set .emg a).emg = a := rfl
@[simp] theorem PerPath.set_emg_ovv {α : Type} (m : PerPath α) (a : α) : (m.set .emg a).ovv = m.ovv := rfl
@[simp] theorem PerPath.tabulate_emg {α : Type} (f : Path → α) : (PerPath.tabulate f).emg = f .emg := rfl
@[simp] theorem PerPath.get_ovv {α : Type} (m : PerPath α) : m.get .ovv = m.ovv := rfl
@[simp] theorem PerPath.set_ovv_emg {α : Type} (m : PerPath α) (a : α) : (m.set .ovv a).emg = m.emg := rfl
@[simp] theorem PerPath.set_ovv_ovv {α : Type} (m : PerPath α) (a : α) : (m.set .ovv a).ovv = a := rfl
@[simp] theorem PerPath.tabulate_ovv {α : Type} (f : Path → α) : (PerPath.tabulate f).ovv = f .ovv := rfl

@[simp] theorem PerPath.get_tabulate {α : Type} (f : Path → α) (i : Path) : (PerPath.tabulate f).get i = f i := by
  cases i <;> rfl

@[simp] theorem PerPath.get_set_same {α : Type} (m : PerPath α) (i : Path) (a : α) : (m.set i a).get i = a := by
  cases i <;> rfl

theorem PerPath.get_set_ne {α : Type} (m : PerPath α) {i j : Path} (a : α) (h : j ≠ i) :
    (m.set i a).get j = m.get j := by
  cases i <;> cases j <;> first | rfl | exact absurd rfl h

theorem PerPath.get_set {α : Type} (m : PerPath α) (i j : Path) (a : α) :
    (m.set i a).get j = if j = i then a else m.get j := by
  cases i <;> cases j <;> rfl

@[simp] theorem PerPath.set_get {α : Type} (m : PerPath α) (i : Path) : m.set i (m.get i) = m := by
  cases i <;> rfl

theorem PerPath.ext_get {α : Type} {m n : PerPath α} (h : ∀ i, m.get i = n.get i) : m = n := by
  cases m; cases n; simp only [PerPath.mk.injEq]; exact ⟨h .emg, h .ovv⟩

/-! ## The fields of State -/

@[simp] theorem quietly_chan (s : State) (c : Channel) : (s.quietly c).chan = c := rfl
@[simp] theorem quietly_gateOpen (s : State) (c : Channel) : (s.quietly c).gateOpen = s.gateOpen := rfl
@[simp] theorem quietly_response (s : State) (c : Channel) : (s.quietly c).response = .none := rfl
@[simp] theorem quietly_pending (s : State) (c : Channel) : (s.quietly c).pending = s.pending := rfl
@[simp] theorem quietly_draws (s : State) (c : Channel) : (s.quietly c).draws = s.draws := rfl

@[simp] theorem accepted_chan (s : State) (c : Channel) : (s.accepted c).chan = c := rfl
@[simp] theorem accepted_gateOpen (s : State) (c : Channel) : (s.accepted c).gateOpen = s.gateOpen := rfl
@[simp] theorem accepted_response (s : State) (c : Channel) : (s.accepted c).response = .okay := rfl
@[simp] theorem accepted_pending (s : State) (c : Channel) : (s.accepted c).pending = s.pending := rfl
@[simp] theorem accepted_draws (s : State) (c : Channel) : (s.accepted c).draws = s.draws := rfl

@[simp] theorem returning_chan (s : State) (v : Word) : (s.returning v).chan = s.chan := rfl
@[simp] theorem returning_gateOpen (s : State) (v : Word) : (s.returning v).gateOpen = s.gateOpen := rfl
@[simp] theorem returning_response (s : State) (v : Word) : (s.returning v).response = .okayData v := rfl
@[simp] theorem returning_pending (s : State) (v : Word) : (s.returning v).pending = s.pending := rfl
@[simp] theorem returning_draws (s : State) (v : Word) : (s.returning v).draws = s.draws := rfl

@[simp] theorem raiseBusError_chan (s : State) (e : BusError) : (raiseBusError e s).chan = s.chan := rfl
@[simp] theorem raiseBusError_gateOpen (s : State) (e : BusError) : (raiseBusError e s).gateOpen = s.gateOpen := rfl
@[simp] theorem raiseBusError_response (s : State) (e : BusError) : (raiseBusError e s).response = .error e := rfl
@[simp] theorem raiseBusError_pending (s : State) (e : BusError) : (raiseBusError e s).pending = s.pending := rfl
@[simp] theorem raiseBusError_draws (s : State) (e : BusError) : (raiseBusError e s).draws = s.draws := rfl

@[simp] theorem lostWrite_chan (s : State) : (s.lostWrite).chan = s.chan := rfl
@[simp] theorem lostWrite_gateOpen (s : State) : (s.lostWrite).gateOpen = s.gateOpen := rfl
@[simp] theorem lostWrite_response (s : State) : (s.lostWrite).response = .okay := rfl
@[simp] theorem lostWrite_pending (s : State) : (s.lostWrite).pending = s.pending := rfl
@[simp] theorem lostWrite_draws (s : State) : (s.lostWrite).draws = s.draws := rfl

@[simp] theorem gatedRead_chan (s : State) : (s.gatedRead).chan = s.chan := rfl
@[simp] theorem gatedRead_gateOpen (s : State) : (s.gatedRead).gateOpen = s.gateOpen := rfl
@[simp] theorem gatedRead_response (s : State) : (s.gatedRead).response = .okayData (Config.gatedRead s.draws) := rfl
@[simp] theorem gatedRead_pending (s : State) : (s.gatedRead).pending = s.pending := rfl
@[simp] theorem gatedRead_draws (s : State) : (s.gatedRead).draws = s.draws + 1 := rfl

@[simp] theorem setGate_chan (s : State) (b : Bool) : (s.setGate b).chan = s.chan := rfl
@[simp] theorem setGate_gateOpen (s : State) (b : Bool) : (s.setGate b).gateOpen = b := rfl
@[simp] theorem setGate_response (s : State) (b : Bool) : (s.setGate b).response = .none := rfl
@[simp] theorem setGate_pending (s : State) (b : Bool) : (s.setGate b).pending = s.pending := rfl
@[simp] theorem setGate_draws (s : State) (b : Bool) : (s.setGate b).draws = s.draws := rfl

@[simp] theorem place_chan (s : State) (r : Request) : (s.place r).chan = s.chan := rfl
@[simp] theorem place_gateOpen (s : State) (r : Request) : (s.place r).gateOpen = s.gateOpen := rfl
@[simp] theorem place_response (s : State) (r : Request) : (s.place r).response = s.response := rfl
@[simp] theorem place_pending (s : State) (r : Request) : (s.place r).pending = r :: s.pending := rfl
@[simp] theorem place_draws (s : State) (r : Request) : (s.place r).draws = s.draws := rfl

@[simp] theorem withFetchWord_chan (s : State) (n w : Nat) : (s.withFetchWord n w).chan = s.chan := rfl
@[simp] theorem withFetchWord_gateOpen (s : State) (n w : Nat) : (s.withFetchWord n w).gateOpen = true := rfl
@[simp] theorem withFetchWord_response (s : State) (n w : Nat) : (s.withFetchWord n w).response = s.response := rfl
@[simp] theorem withFetchWord_pending (s : State) (n w : Nat) : (s.withFetchWord n w).pending = .bus (tableWord n w) :: s.pending := rfl
@[simp] theorem withFetchWord_draws (s : State) (n w : Nat) : (s.withFetchWord n w).draws = s.draws := rfl

/-! ## The fields of Channel -/

@[simp] theorem initRun_mden (c : Channel) : (c.initRun).mden = c.mden := rfl
@[simp] theorem initRun_upmd (c : Channel) : (c.initRun).upmd = c.upmd := rfl
@[simp] theorem initRun_lomd (c : Channel) : (c.initRun).lomd = c.lomd := rfl
@[simp] theorem initRun_car (c : Channel) : (c.initRun).car = c.car := rfl
@[simp] theorem initRun_dtymd (c : Channel) : (c.initRun).dtymd = c.dtymd := rfl
@[simp] theorem initRun_dtcren (c : Channel) : (c.initRun).dtcren = c.dtcren := rfl
@[simp] theorem initRun_dsyncs (c : Channel) : (c.initRun).dsyncs = c.dsyncs := rfl
@[simp] theorem initRun_polh (c : Channel) : (c.initRun).polh = c.polh := rfl
@[simp] theorem initRun_poll (c : Channel) : (c.initRun).poll = c.poll := rfl
@[simp] theorem initRun_syncs (c : Channel) : (c.initRun).syncs = c.syncs := rfl
@[simp] theorem initRun_psyncs (c : Channel) : (c.initRun).psyncs = c.psyncs := rfl
@[simp] theorem initRun_dtr (c : Channel) : (c.initRun).dtr = c.dtr := rfl
@[simp] theorem initRun_rate (c : Channel) : (c.initRun).rate = c.rate := rfl
@[simp] theorem initRun_cmpb (c : Channel) : (c.initRun).cmpb = c.cmpb := rfl
@[simp] theorem initRun_cmpa (c : Channel) : (c.initRun).cmpa = c.cmpb := rfl
@[simp] theorem initRun_pen (c : Channel) : (c.initRun).pen = c.pen := rfl
@[simp] theorem initRun_inpol (c : Channel) : (c.initRun).inpol = c.inpol := rfl
@[simp] theorem initRun_resp (c : Channel) : (c.initRun).resp = c.resp := rfl
@[simp] theorem initRun_filt (c : Channel) : (c.initRun).filt = c.filt := rfl
@[simp] theorem initRun_latch (c : Channel) : (c.initRun).latch = c.latch := rfl
@[simp] theorem initRun_keyst (c : Channel) : (c.initRun).keyst = c.keyst := rfl
@[simp] theorem initRun_fcnt (c : Channel) : (c.initRun).fcnt = c.fcnt := rfl
@[simp] theorem initRun_pgateU (c : Channel) : (c.initRun).pgateU = c.pgateU := rfl
@[simp] theorem initRun_pgateL (c : Channel) : (c.initRun).pgateL = c.pgateL := rfl
@[simp] theorem initRun_phase (c : Channel) : (c.initRun).phase = 0 := rfl
@[simp] theorem initRun_hold (c : Channel) : (c.initRun).hold = ⟨0, 0, 0⟩ := rfl
@[simp] theorem initRun_side (c : Channel) : (c.initRun).side = ⟨false, false, false⟩ := rfl
@[simp] theorem initRun_cnt (c : Channel) : (c.initRun).cnt = ⟨c.dtr, c.dtr, c.dtr⟩ := rfl

@[simp] theorem storePom_mden (c : Channel) (d : Word) : (c.storePom d).mden = c.mden := rfl
@[simp] theorem storePom_upmd (c : Channel) (d : Word) : (c.storePom d).upmd = d[0] := rfl
@[simp] theorem storePom_lomd (c : Channel) (d : Word) : (c.storePom d).lomd = d[1] := rfl
@[simp] theorem storePom_car (c : Channel) (d : Word) : (c.storePom d).car = c.car := rfl
@[simp] theorem storePom_dtymd (c : Channel) (d : Word) : (c.storePom d).dtymd = c.dtymd := rfl
@[simp] theorem storePom_dtcren (c : Channel) (d : Word) : (c.storePom d).dtcren = c.dtcren := rfl
@[simp] theorem storePom_dsyncs (c : Channel) (d : Word) : (c.storePom d).dsyncs = c.dsyncs := rfl
@[simp] theorem storePom_polh (c : Channel) (d : Word) : (c.storePom d).polh = c.polh := rfl
@[simp] theorem storePom_poll (c : Channel) (d : Word) : (c.storePom d).poll = c.poll := rfl
@[simp] theorem storePom_syncs (c : Channel) (d : Word) : (c.storePom d).syncs = c.syncs := rfl
@[simp] theorem storePom_psyncs (c : Channel) (d : Word) : (c.storePom d).psyncs = c.psyncs := rfl
@[simp] theorem storePom_dtr (c : Channel) (d : Word) : (c.storePom d).dtr = c.dtr := rfl
@[simp] theorem storePom_rate (c : Channel) (d : Word) : (c.storePom d).rate = c.rate := rfl
@[simp] theorem storePom_cmpb (c : Channel) (d : Word) : (c.storePom d).cmpb = c.cmpb := rfl
@[simp] theorem storePom_cmpa (c : Channel) (d : Word) : (c.storePom d).cmpa = c.cmpa := rfl
@[simp] theorem storePom_pen (c : Channel) (d : Word) : (c.storePom d).pen = c.pen := rfl
@[simp] theorem storePom_inpol (c : Channel) (d : Word) : (c.storePom d).inpol = c.inpol := rfl
@[simp] theorem storePom_resp (c : Channel) (d : Word) : (c.storePom d).resp = c.resp := rfl
@[simp] theorem storePom_filt (c : Channel) (d : Word) : (c.storePom d).filt = c.filt := rfl
@[simp] theorem storePom_latch (c : Channel) (d : Word) : (c.storePom d).latch = c.latch := rfl
@[simp] theorem storePom_keyst (c : Channel) (d : Word) : (c.storePom d).keyst = c.keyst := rfl
@[simp] theorem storePom_fcnt (c : Channel) (d : Word) : (c.storePom d).fcnt = c.fcnt := rfl
@[simp] theorem storePom_pgateU (c : Channel) (d : Word) : (c.storePom d).pgateU = c.pgateU := rfl
@[simp] theorem storePom_pgateL (c : Channel) (d : Word) : (c.storePom d).pgateL = c.pgateL := rfl
@[simp] theorem storePom_phase (c : Channel) (d : Word) : (c.storePom d).phase = c.phase := rfl
@[simp] theorem storePom_hold (c : Channel) (d : Word) : (c.storePom d).hold = c.hold := rfl
@[simp] theorem storePom_side (c : Channel) (d : Word) : (c.storePom d).side = c.side := rfl
@[simp] theorem storePom_cnt (c : Channel) (d : Word) : (c.storePom d).cnt = c.cnt := rfl

@[simp] theorem storeWfc_mden (c : Channel) (d : Word) : (c.storeWfc d).mden = c.mden := rfl
@[simp] theorem storeWfc_upmd (c : Channel) (d : Word) : (c.storeWfc d).upmd = c.upmd := rfl
@[simp] theorem storeWfc_lomd (c : Channel) (d : Word) : (c.storeWfc d).lomd = c.lomd := rfl
@[simp] theorem storeWfc_car (c : Channel) (d : Word) : (c.storeWfc d).car = ⟨d.extractLsb' 0 2, d.extractLsb' 2 2, d.extractLsb' 4 2⟩ := rfl
@[simp] theorem storeWfc_dtymd (c : Channel) (d : Word) : (c.storeWfc d).dtymd = d[6] := rfl
@[simp] theorem storeWfc_dtcren (c : Channel) (d : Word) : (c.storeWfc d).dtcren = d[7] := rfl
@[simp] theorem storeWfc_dsyncs (c : Channel) (d : Word) : (c.storeWfc d).dsyncs = d.extractLsb' 8 2 := rfl
@[simp] theorem storeWfc_polh (c : Channel) (d : Word) : (c.storeWfc d).polh = c.polh := rfl
@[simp] theorem storeWfc_poll (c : Channel) (d : Word) : (c.storeWfc d).poll = c.poll := rfl
@[simp] theorem storeWfc_syncs (c : Channel) (d : Word) : (c.storeWfc d).syncs = c.syncs := rfl
@[simp] theorem storeWfc_psyncs (c : Channel) (d : Word) : (c.storeWfc d).psyncs = c.psyncs := rfl
@[simp] theorem storeWfc_dtr (c : Channel) (d : Word) : (c.storeWfc d).dtr = c.dtr := rfl
@[simp] theorem storeWfc_rate (c : Channel) (d : Word) : (c.storeWfc d).rate = c.rate := rfl
@[simp] theorem storeWfc_cmpb (c : Channel) (d : Word) : (c.storeWfc d).cmpb = c.cmpb := rfl
@[simp] theorem storeWfc_cmpa (c : Channel) (d : Word) : (c.storeWfc d).cmpa = c.cmpa := rfl
@[simp] theorem storeWfc_pen (c : Channel) (d : Word) : (c.storeWfc d).pen = c.pen := rfl
@[simp] theorem storeWfc_inpol (c : Channel) (d : Word) : (c.storeWfc d).inpol = c.inpol := rfl
@[simp] theorem storeWfc_resp (c : Channel) (d : Word) : (c.storeWfc d).resp = c.resp := rfl
@[simp] theorem storeWfc_filt (c : Channel) (d : Word) : (c.storeWfc d).filt = c.filt := rfl
@[simp] theorem storeWfc_latch (c : Channel) (d : Word) : (c.storeWfc d).latch = c.latch := rfl
@[simp] theorem storeWfc_keyst (c : Channel) (d : Word) : (c.storeWfc d).keyst = c.keyst := rfl
@[simp] theorem storeWfc_fcnt (c : Channel) (d : Word) : (c.storeWfc d).fcnt = c.fcnt := rfl
@[simp] theorem storeWfc_pgateU (c : Channel) (d : Word) : (c.storeWfc d).pgateU = c.pgateU := rfl
@[simp] theorem storeWfc_pgateL (c : Channel) (d : Word) : (c.storeWfc d).pgateL = c.pgateL := rfl
@[simp] theorem storeWfc_phase (c : Channel) (d : Word) : (c.storeWfc d).phase = c.phase := rfl
@[simp] theorem storeWfc_hold (c : Channel) (d : Word) : (c.storeWfc d).hold = c.hold := rfl
@[simp] theorem storeWfc_side (c : Channel) (d : Word) : (c.storeWfc d).side = c.side := rfl
@[simp] theorem storeWfc_cnt (c : Channel) (d : Word) : (c.storeWfc d).cnt = c.cnt := rfl

@[simp] theorem storeOpl_mden (c : Channel) (d : Word) : (c.storeOpl d).mden = c.mden := rfl
@[simp] theorem storeOpl_upmd (c : Channel) (d : Word) : (c.storeOpl d).upmd = c.upmd := rfl
@[simp] theorem storeOpl_lomd (c : Channel) (d : Word) : (c.storeOpl d).lomd = c.lomd := rfl
@[simp] theorem storeOpl_car (c : Channel) (d : Word) : (c.storeOpl d).car = c.car := rfl
@[simp] theorem storeOpl_dtymd (c : Channel) (d : Word) : (c.storeOpl d).dtymd = c.dtymd := rfl
@[simp] theorem storeOpl_dtcren (c : Channel) (d : Word) : (c.storeOpl d).dtcren = c.dtcren := rfl
@[simp] theorem storeOpl_dsyncs (c : Channel) (d : Word) : (c.storeOpl d).dsyncs = c.dsyncs := rfl
@[simp] theorem storeOpl_polh (c : Channel) (d : Word) : (c.storeOpl d).polh = d[0] := rfl
@[simp] theorem storeOpl_poll (c : Channel) (d : Word) : (c.storeOpl d).poll = d[1] := rfl
@[simp] theorem storeOpl_syncs (c : Channel) (d : Word) : (c.storeOpl d).syncs = d.extractLsb' 2 2 := rfl
@[simp] theorem storeOpl_psyncs (c : Channel) (d : Word) : (c.storeOpl d).psyncs = d.extractLsb' 4 2 := rfl
@[simp] theorem storeOpl_dtr (c : Channel) (d : Word) : (c.storeOpl d).dtr = c.dtr := rfl
@[simp] theorem storeOpl_rate (c : Channel) (d : Word) : (c.storeOpl d).rate = c.rate := rfl
@[simp] theorem storeOpl_cmpb (c : Channel) (d : Word) : (c.storeOpl d).cmpb = c.cmpb := rfl
@[simp] theorem storeOpl_cmpa (c : Channel) (d : Word) : (c.storeOpl d).cmpa = c.cmpa := rfl
@[simp] theorem storeOpl_pen (c : Channel) (d : Word) : (c.storeOpl d).pen = c.pen := rfl
@[simp] theorem storeOpl_inpol (c : Channel) (d : Word) : (c.storeOpl d).inpol = c.inpol := rfl
@[simp] theorem storeOpl_resp (c : Channel) (d : Word) : (c.storeOpl d).resp = c.resp := rfl
@[simp] theorem storeOpl_filt (c : Channel) (d : Word) : (c.storeOpl d).filt = c.filt := rfl
@[simp] theorem storeOpl_latch (c : Channel) (d : Word) : (c.storeOpl d).latch = c.latch := rfl
@[simp] theorem storeOpl_keyst (c : Channel) (d : Word) : (c.storeOpl d).keyst = c.keyst := rfl
@[simp] theorem storeOpl_fcnt (c : Channel) (d : Word) : (c.storeOpl d).fcnt = c.fcnt := rfl
@[simp] theorem storeOpl_pgateU (c : Channel) (d : Word) : (c.storeOpl d).pgateU = c.pgateU := rfl
@[simp] theorem storeOpl_pgateL (c : Channel) (d : Word) : (c.storeOpl d).pgateL = c.pgateL := rfl
@[simp] theorem storeOpl_phase (c : Channel) (d : Word) : (c.storeOpl d).phase = c.phase := rfl
@[simp] theorem storeOpl_hold (c : Channel) (d : Word) : (c.storeOpl d).hold = c.hold := rfl
@[simp] theorem storeOpl_side (c : Channel) (d : Word) : (c.storeOpl d).side = c.side := rfl
@[simp] theorem storeOpl_cnt (c : Channel) (d : Word) : (c.storeOpl d).cnt = c.cnt := rfl

@[simp] theorem storeDtr_mden (c : Channel) (d : Word) : (c.storeDtr d).mden = c.mden := rfl
@[simp] theorem storeDtr_upmd (c : Channel) (d : Word) : (c.storeDtr d).upmd = c.upmd := rfl
@[simp] theorem storeDtr_lomd (c : Channel) (d : Word) : (c.storeDtr d).lomd = c.lomd := rfl
@[simp] theorem storeDtr_car (c : Channel) (d : Word) : (c.storeDtr d).car = c.car := rfl
@[simp] theorem storeDtr_dtymd (c : Channel) (d : Word) : (c.storeDtr d).dtymd = c.dtymd := rfl
@[simp] theorem storeDtr_dtcren (c : Channel) (d : Word) : (c.storeDtr d).dtcren = c.dtcren := rfl
@[simp] theorem storeDtr_dsyncs (c : Channel) (d : Word) : (c.storeDtr d).dsyncs = c.dsyncs := rfl
@[simp] theorem storeDtr_polh (c : Channel) (d : Word) : (c.storeDtr d).polh = c.polh := rfl
@[simp] theorem storeDtr_poll (c : Channel) (d : Word) : (c.storeDtr d).poll = c.poll := rfl
@[simp] theorem storeDtr_syncs (c : Channel) (d : Word) : (c.storeDtr d).syncs = c.syncs := rfl
@[simp] theorem storeDtr_psyncs (c : Channel) (d : Word) : (c.storeDtr d).psyncs = c.psyncs := rfl
@[simp] theorem storeDtr_dtr (c : Channel) (d : Word) : (c.storeDtr d).dtr = d := rfl
@[simp] theorem storeDtr_rate (c : Channel) (d : Word) : (c.storeDtr d).rate = c.rate := rfl
@[simp] theorem storeDtr_cmpb (c : Channel) (d : Word) : (c.storeDtr d).cmpb = c.cmpb := rfl
@[simp] theorem storeDtr_cmpa (c : Channel) (d : Word) : (c.storeDtr d).cmpa = c.cmpa := rfl
@[simp] theorem storeDtr_pen (c : Channel) (d : Word) : (c.storeDtr d).pen = c.pen := rfl
@[simp] theorem storeDtr_inpol (c : Channel) (d : Word) : (c.storeDtr d).inpol = c.inpol := rfl
@[simp] theorem storeDtr_resp (c : Channel) (d : Word) : (c.storeDtr d).resp = c.resp := rfl
@[simp] theorem storeDtr_filt (c : Channel) (d : Word) : (c.storeDtr d).filt = c.filt := rfl
@[simp] theorem storeDtr_latch (c : Channel) (d : Word) : (c.storeDtr d).latch = c.latch := rfl
@[simp] theorem storeDtr_keyst (c : Channel) (d : Word) : (c.storeDtr d).keyst = c.keyst := rfl
@[simp] theorem storeDtr_fcnt (c : Channel) (d : Word) : (c.storeDtr d).fcnt = c.fcnt := rfl
@[simp] theorem storeDtr_pgateU (c : Channel) (d : Word) : (c.storeDtr d).pgateU = c.pgateU := rfl
@[simp] theorem storeDtr_pgateL (c : Channel) (d : Word) : (c.storeDtr d).pgateL = c.pgateL := rfl
@[simp] theorem storeDtr_phase (c : Channel) (d : Word) : (c.storeDtr d).phase = c.phase := rfl
@[simp] theorem storeDtr_hold (c : Channel) (d : Word) : (c.storeDtr d).hold = c.hold := rfl
@[simp] theorem storeDtr_side (c : Channel) (d : Word) : (c.storeDtr d).side = c.side := rfl
@[simp] theorem storeDtr_cnt (c : Channel) (d : Word) : (c.storeDtr d).cnt = c.cnt := rfl

@[simp] theorem storeRate_mden (c : Channel) (d : Word) : (c.storeRate d).mden = c.mden := rfl
@[simp] theorem storeRate_upmd (c : Channel) (d : Word) : (c.storeRate d).upmd = c.upmd := rfl
@[simp] theorem storeRate_lomd (c : Channel) (d : Word) : (c.storeRate d).lomd = c.lomd := rfl
@[simp] theorem storeRate_car (c : Channel) (d : Word) : (c.storeRate d).car = c.car := rfl
@[simp] theorem storeRate_dtymd (c : Channel) (d : Word) : (c.storeRate d).dtymd = c.dtymd := rfl
@[simp] theorem storeRate_dtcren (c : Channel) (d : Word) : (c.storeRate d).dtcren = c.dtcren := rfl
@[simp] theorem storeRate_dsyncs (c : Channel) (d : Word) : (c.storeRate d).dsyncs = c.dsyncs := rfl
@[simp] theorem storeRate_polh (c : Channel) (d : Word) : (c.storeRate d).polh = c.polh := rfl
@[simp] theorem storeRate_poll (c : Channel) (d : Word) : (c.storeRate d).poll = c.poll := rfl
@[simp] theorem storeRate_syncs (c : Channel) (d : Word) : (c.storeRate d).syncs = c.syncs := rfl
@[simp] theorem storeRate_psyncs (c : Channel) (d : Word) : (c.storeRate d).psyncs = c.psyncs := rfl
@[simp] theorem storeRate_dtr (c : Channel) (d : Word) : (c.storeRate d).dtr = c.dtr := rfl
@[simp] theorem storeRate_rate (c : Channel) (d : Word) : (c.storeRate d).rate = d := rfl
@[simp] theorem storeRate_cmpb (c : Channel) (d : Word) : (c.storeRate d).cmpb = c.cmpb := rfl
@[simp] theorem storeRate_cmpa (c : Channel) (d : Word) : (c.storeRate d).cmpa = c.cmpa := rfl
@[simp] theorem storeRate_pen (c : Channel) (d : Word) : (c.storeRate d).pen = c.pen := rfl
@[simp] theorem storeRate_inpol (c : Channel) (d : Word) : (c.storeRate d).inpol = c.inpol := rfl
@[simp] theorem storeRate_resp (c : Channel) (d : Word) : (c.storeRate d).resp = c.resp := rfl
@[simp] theorem storeRate_filt (c : Channel) (d : Word) : (c.storeRate d).filt = c.filt := rfl
@[simp] theorem storeRate_latch (c : Channel) (d : Word) : (c.storeRate d).latch = c.latch := rfl
@[simp] theorem storeRate_keyst (c : Channel) (d : Word) : (c.storeRate d).keyst = c.keyst := rfl
@[simp] theorem storeRate_fcnt (c : Channel) (d : Word) : (c.storeRate d).fcnt = c.fcnt := rfl
@[simp] theorem storeRate_pgateU (c : Channel) (d : Word) : (c.storeRate d).pgateU = c.pgateU := rfl
@[simp] theorem storeRate_pgateL (c : Channel) (d : Word) : (c.storeRate d).pgateL = c.pgateL := rfl
@[simp] theorem storeRate_phase (c : Channel) (d : Word) : (c.storeRate d).phase = c.phase := rfl
@[simp] theorem storeRate_hold (c : Channel) (d : Word) : (c.storeRate d).hold = c.hold := rfl
@[simp] theorem storeRate_side (c : Channel) (d : Word) : (c.storeRate d).side = c.side := rfl
@[simp] theorem storeRate_cnt (c : Channel) (d : Word) : (c.storeRate d).cnt = c.cnt := rfl

@[simp] theorem storeCmp_mden (c : Channel) (x : Phase) (d : Word) : (c.storeCmp x d).mden = c.mden := rfl
@[simp] theorem storeCmp_upmd (c : Channel) (x : Phase) (d : Word) : (c.storeCmp x d).upmd = c.upmd := rfl
@[simp] theorem storeCmp_lomd (c : Channel) (x : Phase) (d : Word) : (c.storeCmp x d).lomd = c.lomd := rfl
@[simp] theorem storeCmp_car (c : Channel) (x : Phase) (d : Word) : (c.storeCmp x d).car = c.car := rfl
@[simp] theorem storeCmp_dtymd (c : Channel) (x : Phase) (d : Word) : (c.storeCmp x d).dtymd = c.dtymd := rfl
@[simp] theorem storeCmp_dtcren (c : Channel) (x : Phase) (d : Word) : (c.storeCmp x d).dtcren = c.dtcren := rfl
@[simp] theorem storeCmp_dsyncs (c : Channel) (x : Phase) (d : Word) : (c.storeCmp x d).dsyncs = c.dsyncs := rfl
@[simp] theorem storeCmp_polh (c : Channel) (x : Phase) (d : Word) : (c.storeCmp x d).polh = c.polh := rfl
@[simp] theorem storeCmp_poll (c : Channel) (x : Phase) (d : Word) : (c.storeCmp x d).poll = c.poll := rfl
@[simp] theorem storeCmp_syncs (c : Channel) (x : Phase) (d : Word) : (c.storeCmp x d).syncs = c.syncs := rfl
@[simp] theorem storeCmp_psyncs (c : Channel) (x : Phase) (d : Word) : (c.storeCmp x d).psyncs = c.psyncs := rfl
@[simp] theorem storeCmp_dtr (c : Channel) (x : Phase) (d : Word) : (c.storeCmp x d).dtr = c.dtr := rfl
@[simp] theorem storeCmp_rate (c : Channel) (x : Phase) (d : Word) : (c.storeCmp x d).rate = c.rate := rfl
@[simp] theorem storeCmp_cmpb (c : Channel) (x : Phase) (d : Word) : (c.storeCmp x d).cmpb = c.cmpb.set x d := rfl
@[simp] theorem storeCmp_cmpa (c : Channel) (x : Phase) (d : Word) : (c.storeCmp x d).cmpa = c.cmpa := rfl
@[simp] theorem storeCmp_pen (c : Channel) (x : Phase) (d : Word) : (c.storeCmp x d).pen = c.pen := rfl
@[simp] theorem storeCmp_inpol (c : Channel) (x : Phase) (d : Word) : (c.storeCmp x d).inpol = c.inpol := rfl
@[simp] theorem storeCmp_resp (c : Channel) (x : Phase) (d : Word) : (c.storeCmp x d).resp = c.resp := rfl
@[simp] theorem storeCmp_filt (c : Channel) (x : Phase) (d : Word) : (c.storeCmp x d).filt = c.filt := rfl
@[simp] theorem storeCmp_latch (c : Channel) (x : Phase) (d : Word) : (c.storeCmp x d).latch = c.latch := rfl
@[simp] theorem storeCmp_keyst (c : Channel) (x : Phase) (d : Word) : (c.storeCmp x d).keyst = c.keyst := rfl
@[simp] theorem storeCmp_fcnt (c : Channel) (x : Phase) (d : Word) : (c.storeCmp x d).fcnt = c.fcnt := rfl
@[simp] theorem storeCmp_pgateU (c : Channel) (x : Phase) (d : Word) : (c.storeCmp x d).pgateU = c.pgateU := rfl
@[simp] theorem storeCmp_pgateL (c : Channel) (x : Phase) (d : Word) : (c.storeCmp x d).pgateL = c.pgateL := rfl
@[simp] theorem storeCmp_phase (c : Channel) (x : Phase) (d : Word) : (c.storeCmp x d).phase = c.phase := rfl
@[simp] theorem storeCmp_hold (c : Channel) (x : Phase) (d : Word) : (c.storeCmp x d).hold = c.hold := rfl
@[simp] theorem storeCmp_side (c : Channel) (x : Phase) (d : Word) : (c.storeCmp x d).side = c.side := rfl
@[simp] theorem storeCmp_cnt (c : Channel) (x : Phase) (d : Word) : (c.storeCmp x d).cnt = c.cnt := rfl

@[simp] theorem storeCr_mden (c : Channel) (p : Path) (d : Word) : (c.storeCr p d).mden = c.mden := rfl
@[simp] theorem storeCr_upmd (c : Channel) (p : Path) (d : Word) : (c.storeCr p d).upmd = c.upmd := rfl
@[simp] theorem storeCr_lomd (c : Channel) (p : Path) (d : Word) : (c.storeCr p d).lomd = c.lomd := rfl
@[simp] theorem storeCr_car (c : Channel) (p : Path) (d : Word) : (c.storeCr p d).car = c.car := rfl
@[simp] theorem storeCr_dtymd (c : Channel) (p : Path) (d : Word) : (c.storeCr p d).dtymd = c.dtymd := rfl
@[simp] theorem storeCr_dtcren (c : Channel) (p : Path) (d : Word) : (c.storeCr p d).dtcren = c.dtcren := rfl
@[simp] theorem storeCr_dsyncs (c : Channel) (p : Path) (d : Word) : (c.storeCr p d).dsyncs = c.dsyncs := rfl
@[simp] theorem storeCr_polh (c : Channel) (p : Path) (d : Word) : (c.storeCr p d).polh = c.polh := rfl
@[simp] theorem storeCr_poll (c : Channel) (p : Path) (d : Word) : (c.storeCr p d).poll = c.poll := rfl
@[simp] theorem storeCr_syncs (c : Channel) (p : Path) (d : Word) : (c.storeCr p d).syncs = c.syncs := rfl
@[simp] theorem storeCr_psyncs (c : Channel) (p : Path) (d : Word) : (c.storeCr p d).psyncs = c.psyncs := rfl
@[simp] theorem storeCr_dtr (c : Channel) (p : Path) (d : Word) : (c.storeCr p d).dtr = c.dtr := rfl
@[simp] theorem storeCr_rate (c : Channel) (p : Path) (d : Word) : (c.storeCr p d).rate = c.rate := rfl
@[simp] theorem storeCr_cmpb (c : Channel) (p : Path) (d : Word) : (c.storeCr p d).cmpb = c.cmpb := rfl
@[simp] theorem storeCr_cmpa (c : Channel) (p : Path) (d : Word) : (c.storeCr p d).cmpa = c.cmpa := rfl
@[simp] theorem storeCr_pen (c : Channel) (p : Path) (d : Word) : (c.storeCr p d).pen = c.pen.set p (d[0]) := rfl
@[simp] theorem storeCr_inpol (c : Channel) (p : Path) (d : Word) : (c.storeCr p d).inpol = c.inpol.set p (d[1]) := rfl
@[simp] theorem storeCr_resp (c : Channel) (p : Path) (d : Word) : (c.storeCr p d).resp = c.resp.set p (d.extractLsb' 2 2) := rfl
@[simp] theorem storeCr_filt (c : Channel) (p : Path) (d : Word) : (c.storeCr p d).filt = c.filt.set p (d.extractLsb' 4 4) := rfl
@[simp] theorem storeCr_latch (c : Channel) (p : Path) (d : Word) : (c.storeCr p d).latch = c.latch := rfl
@[simp] theorem storeCr_keyst (c : Channel) (p : Path) (d : Word) : (c.storeCr p d).keyst = c.keyst := rfl
@[simp] theorem storeCr_fcnt (c : Channel) (p : Path) (d : Word) : (c.storeCr p d).fcnt = c.fcnt := rfl
@[simp] theorem storeCr_pgateU (c : Channel) (p : Path) (d : Word) : (c.storeCr p d).pgateU = c.pgateU := rfl
@[simp] theorem storeCr_pgateL (c : Channel) (p : Path) (d : Word) : (c.storeCr p d).pgateL = c.pgateL := rfl
@[simp] theorem storeCr_phase (c : Channel) (p : Path) (d : Word) : (c.storeCr p d).phase = c.phase := rfl
@[simp] theorem storeCr_hold (c : Channel) (p : Path) (d : Word) : (c.storeCr p d).hold = c.hold := rfl
@[simp] theorem storeCr_side (c : Channel) (p : Path) (d : Word) : (c.storeCr p d).side = c.side := rfl
@[simp] theorem storeCr_cnt (c : Channel) (p : Path) (d : Word) : (c.storeCr p d).cnt = c.cnt := rfl

@[simp] theorem withKey_mden (c : Channel) (p : Path) (k : KeyState) : (c.withKey p k).mden = c.mden := rfl
@[simp] theorem withKey_upmd (c : Channel) (p : Path) (k : KeyState) : (c.withKey p k).upmd = c.upmd := rfl
@[simp] theorem withKey_lomd (c : Channel) (p : Path) (k : KeyState) : (c.withKey p k).lomd = c.lomd := rfl
@[simp] theorem withKey_car (c : Channel) (p : Path) (k : KeyState) : (c.withKey p k).car = c.car := rfl
@[simp] theorem withKey_dtymd (c : Channel) (p : Path) (k : KeyState) : (c.withKey p k).dtymd = c.dtymd := rfl
@[simp] theorem withKey_dtcren (c : Channel) (p : Path) (k : KeyState) : (c.withKey p k).dtcren = c.dtcren := rfl
@[simp] theorem withKey_dsyncs (c : Channel) (p : Path) (k : KeyState) : (c.withKey p k).dsyncs = c.dsyncs := rfl
@[simp] theorem withKey_polh (c : Channel) (p : Path) (k : KeyState) : (c.withKey p k).polh = c.polh := rfl
@[simp] theorem withKey_poll (c : Channel) (p : Path) (k : KeyState) : (c.withKey p k).poll = c.poll := rfl
@[simp] theorem withKey_syncs (c : Channel) (p : Path) (k : KeyState) : (c.withKey p k).syncs = c.syncs := rfl
@[simp] theorem withKey_psyncs (c : Channel) (p : Path) (k : KeyState) : (c.withKey p k).psyncs = c.psyncs := rfl
@[simp] theorem withKey_dtr (c : Channel) (p : Path) (k : KeyState) : (c.withKey p k).dtr = c.dtr := rfl
@[simp] theorem withKey_rate (c : Channel) (p : Path) (k : KeyState) : (c.withKey p k).rate = c.rate := rfl
@[simp] theorem withKey_cmpb (c : Channel) (p : Path) (k : KeyState) : (c.withKey p k).cmpb = c.cmpb := rfl
@[simp] theorem withKey_cmpa (c : Channel) (p : Path) (k : KeyState) : (c.withKey p k).cmpa = c.cmpa := rfl
@[simp] theorem withKey_pen (c : Channel) (p : Path) (k : KeyState) : (c.withKey p k).pen = c.pen := rfl
@[simp] theorem withKey_inpol (c : Channel) (p : Path) (k : KeyState) : (c.withKey p k).inpol = c.inpol := rfl
@[simp] theorem withKey_resp (c : Channel) (p : Path) (k : KeyState) : (c.withKey p k).resp = c.resp := rfl
@[simp] theorem withKey_filt (c : Channel) (p : Path) (k : KeyState) : (c.withKey p k).filt = c.filt := rfl
@[simp] theorem withKey_latch (c : Channel) (p : Path) (k : KeyState) : (c.withKey p k).latch = c.latch := rfl
@[simp] theorem withKey_keyst (c : Channel) (p : Path) (k : KeyState) : (c.withKey p k).keyst = c.keyst.set p k := rfl
@[simp] theorem withKey_fcnt (c : Channel) (p : Path) (k : KeyState) : (c.withKey p k).fcnt = c.fcnt := rfl
@[simp] theorem withKey_pgateU (c : Channel) (p : Path) (k : KeyState) : (c.withKey p k).pgateU = c.pgateU := rfl
@[simp] theorem withKey_pgateL (c : Channel) (p : Path) (k : KeyState) : (c.withKey p k).pgateL = c.pgateL := rfl
@[simp] theorem withKey_phase (c : Channel) (p : Path) (k : KeyState) : (c.withKey p k).phase = c.phase := rfl
@[simp] theorem withKey_hold (c : Channel) (p : Path) (k : KeyState) : (c.withKey p k).hold = c.hold := rfl
@[simp] theorem withKey_side (c : Channel) (p : Path) (k : KeyState) : (c.withKey p k).side = c.side := rfl
@[simp] theorem withKey_cnt (c : Channel) (p : Path) (k : KeyState) : (c.withKey p k).cnt = c.cnt := rfl

@[simp] theorem t1_mden (c : Channel) (e o : Bool) : (c.t1 e o).mden = c.mden := rfl
@[simp] theorem t1_upmd (c : Channel) (e o : Bool) : (c.t1 e o).upmd = c.upmd := rfl
@[simp] theorem t1_lomd (c : Channel) (e o : Bool) : (c.t1 e o).lomd = c.lomd := rfl
@[simp] theorem t1_car (c : Channel) (e o : Bool) : (c.t1 e o).car = c.car := rfl
@[simp] theorem t1_dtymd (c : Channel) (e o : Bool) : (c.t1 e o).dtymd = c.dtymd := rfl
@[simp] theorem t1_dtcren (c : Channel) (e o : Bool) : (c.t1 e o).dtcren = c.dtcren := rfl
@[simp] theorem t1_dsyncs (c : Channel) (e o : Bool) : (c.t1 e o).dsyncs = c.dsyncs := rfl
@[simp] theorem t1_polh (c : Channel) (e o : Bool) : (c.t1 e o).polh = c.polh := rfl
@[simp] theorem t1_poll (c : Channel) (e o : Bool) : (c.t1 e o).poll = c.poll := rfl
@[simp] theorem t1_syncs (c : Channel) (e o : Bool) : (c.t1 e o).syncs = c.syncs := rfl
@[simp] theorem t1_psyncs (c : Channel) (e o : Bool) : (c.t1 e o).psyncs = c.psyncs := rfl
@[simp] theorem t1_dtr (c : Channel) (e o : Bool) : (c.t1 e o).dtr = c.dtr := rfl
@[simp] theorem t1_rate (c : Channel) (e o : Bool) : (c.t1 e o).rate = c.rate := rfl
@[simp] theorem t1_cmpb (c : Channel) (e o : Bool) : (c.t1 e o).cmpb = c.cmpb := rfl
@[simp] theorem t1_cmpa (c : Channel) (e o : Bool) : (c.t1 e o).cmpa = c.cmpa := rfl
@[simp] theorem t1_pen (c : Channel) (e o : Bool) : (c.t1 e o).pen = c.pen := rfl
@[simp] theorem t1_inpol (c : Channel) (e o : Bool) : (c.t1 e o).inpol = c.inpol := rfl
@[simp] theorem t1_resp (c : Channel) (e o : Bool) : (c.t1 e o).resp = c.resp := rfl
@[simp] theorem t1_filt (c : Channel) (e o : Bool) : (c.t1 e o).filt = c.filt := rfl
@[simp] theorem t1_keyst (c : Channel) (e o : Bool) : (c.t1 e o).keyst = c.keyst := rfl
@[simp] theorem t1_pgateU (c : Channel) (e o : Bool) : (c.t1 e o).pgateU = c.pgateU := rfl
@[simp] theorem t1_pgateL (c : Channel) (e o : Bool) : (c.t1 e o).pgateL = c.pgateL := rfl
@[simp] theorem t1_phase (c : Channel) (e o : Bool) : (c.t1 e o).phase = c.phase := rfl
@[simp] theorem t1_hold (c : Channel) (e o : Bool) : (c.t1 e o).hold = c.hold := rfl
@[simp] theorem t1_side (c : Channel) (e o : Bool) : (c.t1 e o).side = c.side := rfl
@[simp] theorem t1_cnt (c : Channel) (e o : Bool) : (c.t1 e o).cnt = c.cnt := rfl

@[simp] theorem t2_mden (c : Channel) : (c.t2).mden = c.mden := rfl
@[simp] theorem t2_upmd (c : Channel) : (c.t2).upmd = c.upmd := rfl
@[simp] theorem t2_lomd (c : Channel) : (c.t2).lomd = c.lomd := rfl
@[simp] theorem t2_car (c : Channel) : (c.t2).car = c.car := rfl
@[simp] theorem t2_dtymd (c : Channel) : (c.t2).dtymd = c.dtymd := rfl
@[simp] theorem t2_dtcren (c : Channel) : (c.t2).dtcren = c.dtcren := rfl
@[simp] theorem t2_dsyncs (c : Channel) : (c.t2).dsyncs = c.dsyncs := rfl
@[simp] theorem t2_polh (c : Channel) : (c.t2).polh = c.polh := rfl
@[simp] theorem t2_poll (c : Channel) : (c.t2).poll = c.poll := rfl
@[simp] theorem t2_syncs (c : Channel) : (c.t2).syncs = c.syncs := rfl
@[simp] theorem t2_psyncs (c : Channel) : (c.t2).psyncs = c.psyncs := rfl
@[simp] theorem t2_dtr (c : Channel) : (c.t2).dtr = c.dtr := rfl
@[simp] theorem t2_rate (c : Channel) : (c.t2).rate = c.rate := rfl
@[simp] theorem t2_cmpb (c : Channel) : (c.t2).cmpb = c.cmpb := rfl
@[simp] theorem t2_cmpa (c : Channel) : (c.t2).cmpa = c.cmpa := rfl
@[simp] theorem t2_pen (c : Channel) : (c.t2).pen = c.pen := rfl
@[simp] theorem t2_inpol (c : Channel) : (c.t2).inpol = c.inpol := rfl
@[simp] theorem t2_resp (c : Channel) : (c.t2).resp = c.resp := rfl
@[simp] theorem t2_filt (c : Channel) : (c.t2).filt = c.filt := rfl
@[simp] theorem t2_latch (c : Channel) : (c.t2).latch = c.latch := rfl
@[simp] theorem t2_keyst (c : Channel) : (c.t2).keyst = c.keyst := rfl
@[simp] theorem t2_fcnt (c : Channel) : (c.t2).fcnt = c.fcnt := rfl
@[simp] theorem t2_pgateU (c : Channel) : (c.t2).pgateU = c.pgateU := rfl
@[simp] theorem t2_pgateL (c : Channel) : (c.t2).pgateL = c.pgateL := rfl
@[simp] theorem t2_phase (c : Channel) : (c.t2).phase = BitVec.ofNat Config.phaseBits c.carrierSum := rfl
@[simp] theorem t2_hold (c : Channel) : (c.t2).hold = c.hold := rfl
@[simp] theorem t2_side (c : Channel) : (c.t2).side = c.side := rfl
@[simp] theorem t2_cnt (c : Channel) : (c.t2).cnt = c.cnt := rfl

@[simp] theorem t3_mden (c : Channel) (a b : Bool) : (c.t3 a b).mden = c.mden := rfl
@[simp] theorem t3_upmd (c : Channel) (a b : Bool) : (c.t3 a b).upmd = c.upmd := rfl
@[simp] theorem t3_lomd (c : Channel) (a b : Bool) : (c.t3 a b).lomd = c.lomd := rfl
@[simp] theorem t3_car (c : Channel) (a b : Bool) : (c.t3 a b).car = c.car := rfl
@[simp] theorem t3_dtymd (c : Channel) (a b : Bool) : (c.t3 a b).dtymd = c.dtymd := rfl
@[simp] theorem t3_dtcren (c : Channel) (a b : Bool) : (c.t3 a b).dtcren = c.dtcren := rfl
@[simp] theorem t3_dsyncs (c : Channel) (a b : Bool) : (c.t3 a b).dsyncs = c.dsyncs := rfl
@[simp] theorem t3_polh (c : Channel) (a b : Bool) : (c.t3 a b).polh = c.polh := rfl
@[simp] theorem t3_poll (c : Channel) (a b : Bool) : (c.t3 a b).poll = c.poll := rfl
@[simp] theorem t3_syncs (c : Channel) (a b : Bool) : (c.t3 a b).syncs = c.syncs := rfl
@[simp] theorem t3_psyncs (c : Channel) (a b : Bool) : (c.t3 a b).psyncs = c.psyncs := rfl
@[simp] theorem t3_dtr (c : Channel) (a b : Bool) : (c.t3 a b).dtr = c.dtr := rfl
@[simp] theorem t3_rate (c : Channel) (a b : Bool) : (c.t3 a b).rate = c.rate := rfl
@[simp] theorem t3_cmpb (c : Channel) (a b : Bool) : (c.t3 a b).cmpb = c.cmpb := rfl
@[simp] theorem t3_cmpa (c : Channel) (a b : Bool) : (c.t3 a b).cmpa = if sel c.dsyncs a b then c.cmpb else c.cmpa := rfl
@[simp] theorem t3_pen (c : Channel) (a b : Bool) : (c.t3 a b).pen = c.pen := rfl
@[simp] theorem t3_inpol (c : Channel) (a b : Bool) : (c.t3 a b).inpol = c.inpol := rfl
@[simp] theorem t3_resp (c : Channel) (a b : Bool) : (c.t3 a b).resp = c.resp := rfl
@[simp] theorem t3_filt (c : Channel) (a b : Bool) : (c.t3 a b).filt = c.filt := rfl
@[simp] theorem t3_latch (c : Channel) (a b : Bool) : (c.t3 a b).latch = c.latch := rfl
@[simp] theorem t3_keyst (c : Channel) (a b : Bool) : (c.t3 a b).keyst = c.keyst := rfl
@[simp] theorem t3_fcnt (c : Channel) (a b : Bool) : (c.t3 a b).fcnt = c.fcnt := rfl
@[simp] theorem t3_pgateU (c : Channel) (a b : Bool) : (c.t3 a b).pgateU = c.pgateU := rfl
@[simp] theorem t3_pgateL (c : Channel) (a b : Bool) : (c.t3 a b).pgateL = c.pgateL := rfl
@[simp] theorem t3_phase (c : Channel) (a b : Bool) : (c.t3 a b).phase = c.phase := rfl
@[simp] theorem t3_hold (c : Channel) (a b : Bool) : (c.t3 a b).hold = c.hold := rfl
@[simp] theorem t3_side (c : Channel) (a b : Bool) : (c.t3 a b).side = c.side := rfl
@[simp] theorem t3_cnt (c : Channel) (a b : Bool) : (c.t3 a b).cnt = c.cnt := rfl

@[simp] theorem t5_mden (c : Channel) (r : PerPhase Bool) : (c.t5 r).mden = c.mden := rfl
@[simp] theorem t5_upmd (c : Channel) (r : PerPhase Bool) : (c.t5 r).upmd = c.upmd := rfl
@[simp] theorem t5_lomd (c : Channel) (r : PerPhase Bool) : (c.t5 r).lomd = c.lomd := rfl
@[simp] theorem t5_car (c : Channel) (r : PerPhase Bool) : (c.t5 r).car = c.car := rfl
@[simp] theorem t5_dtymd (c : Channel) (r : PerPhase Bool) : (c.t5 r).dtymd = c.dtymd := rfl
@[simp] theorem t5_dtcren (c : Channel) (r : PerPhase Bool) : (c.t5 r).dtcren = c.dtcren := rfl
@[simp] theorem t5_dsyncs (c : Channel) (r : PerPhase Bool) : (c.t5 r).dsyncs = c.dsyncs := rfl
@[simp] theorem t5_polh (c : Channel) (r : PerPhase Bool) : (c.t5 r).polh = c.polh := rfl
@[simp] theorem t5_poll (c : Channel) (r : PerPhase Bool) : (c.t5 r).poll = c.poll := rfl
@[simp] theorem t5_syncs (c : Channel) (r : PerPhase Bool) : (c.t5 r).syncs = c.syncs := rfl
@[simp] theorem t5_psyncs (c : Channel) (r : PerPhase Bool) : (c.t5 r).psyncs = c.psyncs := rfl
@[simp] theorem t5_dtr (c : Channel) (r : PerPhase Bool) : (c.t5 r).dtr = c.dtr := rfl
@[simp] theorem t5_rate (c : Channel) (r : PerPhase Bool) : (c.t5 r).rate = c.rate := rfl
@[simp] theorem t5_cmpb (c : Channel) (r : PerPhase Bool) : (c.t5 r).cmpb = c.cmpb := rfl
@[simp] theorem t5_cmpa (c : Channel) (r : PerPhase Bool) : (c.t5 r).cmpa = c.cmpa := rfl
@[simp] theorem t5_pen (c : Channel) (r : PerPhase Bool) : (c.t5 r).pen = c.pen := rfl
@[simp] theorem t5_inpol (c : Channel) (r : PerPhase Bool) : (c.t5 r).inpol = c.inpol := rfl
@[simp] theorem t5_resp (c : Channel) (r : PerPhase Bool) : (c.t5 r).resp = c.resp := rfl
@[simp] theorem t5_filt (c : Channel) (r : PerPhase Bool) : (c.t5 r).filt = c.filt := rfl
@[simp] theorem t5_latch (c : Channel) (r : PerPhase Bool) : (c.t5 r).latch = c.latch := rfl
@[simp] theorem t5_keyst (c : Channel) (r : PerPhase Bool) : (c.t5 r).keyst = c.keyst := rfl
@[simp] theorem t5_fcnt (c : Channel) (r : PerPhase Bool) : (c.t5 r).fcnt = c.fcnt := rfl
@[simp] theorem t5_pgateU (c : Channel) (r : PerPhase Bool) : (c.t5 r).pgateU = c.pgateU := rfl
@[simp] theorem t5_pgateL (c : Channel) (r : PerPhase Bool) : (c.t5 r).pgateL = c.pgateL := rfl
@[simp] theorem t5_phase (c : Channel) (r : PerPhase Bool) : (c.t5 r).phase = c.phase := rfl

@[simp] theorem t6_mden (c : Channel) (a b : Bool) (y : SyncLevels) : (c.t6 a b y).mden = c.mden := rfl
@[simp] theorem t6_upmd (c : Channel) (a b : Bool) (y : SyncLevels) : (c.t6 a b y).upmd = c.upmd := rfl
@[simp] theorem t6_lomd (c : Channel) (a b : Bool) (y : SyncLevels) : (c.t6 a b y).lomd = c.lomd := rfl
@[simp] theorem t6_car (c : Channel) (a b : Bool) (y : SyncLevels) : (c.t6 a b y).car = c.car := rfl
@[simp] theorem t6_dtymd (c : Channel) (a b : Bool) (y : SyncLevels) : (c.t6 a b y).dtymd = c.dtymd := rfl
@[simp] theorem t6_dtcren (c : Channel) (a b : Bool) (y : SyncLevels) : (c.t6 a b y).dtcren = c.dtcren := rfl
@[simp] theorem t6_dsyncs (c : Channel) (a b : Bool) (y : SyncLevels) : (c.t6 a b y).dsyncs = c.dsyncs := rfl
@[simp] theorem t6_polh (c : Channel) (a b : Bool) (y : SyncLevels) : (c.t6 a b y).polh = c.polh := rfl
@[simp] theorem t6_poll (c : Channel) (a b : Bool) (y : SyncLevels) : (c.t6 a b y).poll = c.poll := rfl
@[simp] theorem t6_syncs (c : Channel) (a b : Bool) (y : SyncLevels) : (c.t6 a b y).syncs = c.syncs := rfl
@[simp] theorem t6_psyncs (c : Channel) (a b : Bool) (y : SyncLevels) : (c.t6 a b y).psyncs = c.psyncs := rfl
@[simp] theorem t6_dtr (c : Channel) (a b : Bool) (y : SyncLevels) : (c.t6 a b y).dtr = c.dtr := rfl
@[simp] theorem t6_rate (c : Channel) (a b : Bool) (y : SyncLevels) : (c.t6 a b y).rate = c.rate := rfl
@[simp] theorem t6_cmpb (c : Channel) (a b : Bool) (y : SyncLevels) : (c.t6 a b y).cmpb = c.cmpb := rfl
@[simp] theorem t6_cmpa (c : Channel) (a b : Bool) (y : SyncLevels) : (c.t6 a b y).cmpa = c.cmpa := rfl
@[simp] theorem t6_pen (c : Channel) (a b : Bool) (y : SyncLevels) : (c.t6 a b y).pen = c.pen := rfl
@[simp] theorem t6_inpol (c : Channel) (a b : Bool) (y : SyncLevels) : (c.t6 a b y).inpol = c.inpol := rfl
@[simp] theorem t6_resp (c : Channel) (a b : Bool) (y : SyncLevels) : (c.t6 a b y).resp = c.resp := rfl
@[simp] theorem t6_filt (c : Channel) (a b : Bool) (y : SyncLevels) : (c.t6 a b y).filt = c.filt := rfl
@[simp] theorem t6_latch (c : Channel) (a b : Bool) (y : SyncLevels) : (c.t6 a b y).latch = c.latch := rfl
@[simp] theorem t6_keyst (c : Channel) (a b : Bool) (y : SyncLevels) : (c.t6 a b y).keyst = c.keyst := rfl
@[simp] theorem t6_fcnt (c : Channel) (a b : Bool) (y : SyncLevels) : (c.t6 a b y).fcnt = c.fcnt := rfl
@[simp] theorem t6_pgateU (c : Channel) (a b : Bool) (y : SyncLevels) : (c.t6 a b y).pgateU = (c.wantU || (c.pgateU && !c.bufferUpdate a b y)) := rfl
@[simp] theorem t6_pgateL (c : Channel) (a b : Bool) (y : SyncLevels) : (c.t6 a b y).pgateL = (c.wantL || (c.pgateL && !c.bufferUpdate a b y)) := rfl
@[simp] theorem t6_phase (c : Channel) (a b : Bool) (y : SyncLevels) : (c.t6 a b y).phase = c.phase := rfl
@[simp] theorem t6_hold (c : Channel) (a b : Bool) (y : SyncLevels) : (c.t6 a b y).hold = c.hold := rfl
@[simp] theorem t6_side (c : Channel) (a b : Bool) (y : SyncLevels) : (c.t6 a b y).side = c.side := rfl
@[simp] theorem t6_cnt (c : Channel) (a b : Bool) (y : SyncLevels) : (c.t6 a b y).cnt = c.cnt := rfl

/-! ## The element of one path or phase after T1 and T5 -/

@[simp] theorem t1_fcnt_get (c : Channel) (e o : Bool) (p : Path) : (c.t1 e o).fcnt.get p =
    filterCount (c.active p (tripLevel e o p)) (c.filt.get p) (c.fcnt.get p) := by
  cases p <;> rfl

@[simp] theorem t1_latch_get (c : Channel) (e o : Bool) (p : Path) : (c.t1 e o).latch.get p =
    filterLatch (c.active p (tripLevel e o p)) (c.filt.get p) (c.fcnt.get p) (c.latch.get p) := by
  cases p <;> rfl

@[simp] theorem t5_hold_get (c : Channel) (r : PerPhase Bool) (x : Phase) : (c.t5 r).hold.get x =
    stretchHold c.dtcren (r.get x) c.dtr (c.hold.get x) := by
  cases x <;> rfl

@[simp] theorem t5_side_get (c : Channel) (r : PerPhase Bool) (x : Phase) : (c.t5 r).side.get x =
    stretched c.dtcren (r.get x) (c.hold.get x) := by
  cases x <;> rfl

@[simp] theorem t5_cnt_get (c : Channel) (r : PerPhase Bool) (x : Phase) : (c.t5 r).cnt.get x =
    insertCount (stretched c.dtcren (r.get x) (c.hold.get x)) (c.side.get x) c.dtr (c.cnt.get x) := by
  cases x <;> rfl

end Sys2Proof.Machine
end

