-- ==== Sys2Proof/Laws/Ops.lean ====
section
/-! SUPPORT. What each shared operation can do, said once: the answers of the bus, the key sequencer and the
release, entering RUN mode, the sub-steps of `TICK`, and taking the next request. -/

namespace Sys2Proof.Machine

/-! ## The answers of the bus -/

theorem busWrite_open {s : State} (f : Channel → Channel) (h : s.gateOpen = true) :
    busWrite f s = s.accepted (f s.chan) := by simp [busWrite, h]

theorem busWrite_closed {s : State} (f : Channel → Channel) (h : s.gateOpen = false) :
    busWrite f s = s.lostWrite := by simp [busWrite, h]

/-- A write is accepted with its update, or lost while the clock gate is closed. -/
theorem busWrite_cases (f : Channel → Channel) (s : State) :
    (s.gateOpen = true ∧ busWrite f s = s.accepted (f s.chan)) ∨
    (s.gateOpen = false ∧ busWrite f s = s.lostWrite) := by
  cases h : s.gateOpen
  · exact .inr ⟨rfl, busWrite_closed f h⟩
  · exact .inl ⟨rfl, busWrite_open f h⟩

/-- A locked write is accepted in CONFIG mode, rejected in RUN mode, or lost with the gate closed. -/
theorem lockedWrite_cases (f : Channel → Channel) (s : State) :
    (s.gateOpen = true ∧ s.chan.mden = false ∧ lockedWrite f s = s.accepted (f s.chan)) ∨
    (s.gateOpen = true ∧ s.chan.mden = true ∧ lockedWrite f s = raiseBusError .locked s) ∨
    (s.gateOpen = false ∧ lockedWrite f s = s.lostWrite) := by
  cases h : s.gateOpen <;> cases h' : s.chan.mden <;> simp [lockedWrite, h, h']

/-- A read returns its word, or a free value while the clock gate is closed. -/
theorem busRead_cases (f : Channel → Word) (s : State) :
    (s.gateOpen = true ∧ busRead f s = s.returning (f s.chan)) ∨
    (s.gateOpen = false ∧ busRead f s = s.gatedRead) := by
  cases h : s.gateOpen <;> simp [busRead, h]

@[simp] theorem busRead_chan (f : Channel → Word) (s : State) : (busRead f s).chan = s.chan := by
  rcases busRead_cases f s with ⟨_, h⟩ | ⟨_, h⟩ <;> rw [h] <;> rfl

@[simp] theorem refuseBus_chan (op : BusOp) (e : BusError) (s : State) :
    (refuseBus op e s).chan = s.chan := by
  unfold refuseBus; repeat' split
  all_goals rfl

/-! ## The key sequencer and the release -/

theorem release_set {c : Channel} {p : Path} (h : c.latch.get p = true) : c.release p =
    { c with latch := c.latch.set p false, pen := c.pen.set p false } := by
  simp [Channel.release, h]

theorem release_clear {c : Channel} {p : Path} (h : c.latch.get p = false) : c.release p = c := by
  simp [Channel.release, h]

theorem key1_ne_key2 : Config.key1 ≠ Config.key2 := by decide

theorem keyStep_key1 (c : Channel) (p : Path) : c.keyStep p Config.key1 = c.withKey p .k1 := by
  simp [Channel.keyStep]

theorem keyStep_key2 {c : Channel} {p : Path} (h : c.keyst.get p = .k1) :
    c.keyStep p Config.key2 = (c.withKey p .idle).release p := by
  simp [Channel.keyStep, h, key1_ne_key2.symm]

theorem keyStep_other {c : Channel} {p : Path} {v : Word} (h1 : v ≠ Config.key1)
    (h2 : ¬(v = Config.key2 ∧ c.keyst.get p = .k1)) : c.keyStep p v = c.withKey p .idle := by
  simp only [Channel.keyStep, if_neg h1, if_neg h2]

/-- Everything a key write can do: accept the first key, complete the sequence, or fall back to `IDLE`. -/
theorem keyStep_cases (c : Channel) (p : Path) (v : Word) :
    (v = Config.key1 ∧ c.keyStep p v = c.withKey p .k1) ∨
    (v = Config.key2 ∧ c.keyst.get p = .k1 ∧ c.latch.get p = true ∧ c.keyStep p v =
      { c with keyst := c.keyst.set p .idle, latch := c.latch.set p false, pen := c.pen.set p false }) ∨
    (v = Config.key2 ∧ c.keyst.get p = .k1 ∧ c.latch.get p = false ∧ c.keyStep p v = c.withKey p .idle) ∨
    (v ≠ Config.key1 ∧ ¬(v = Config.key2 ∧ c.keyst.get p = .k1) ∧ c.keyStep p v = c.withKey p .idle) := by
  by_cases h1 : v = Config.key1
  · subst h1; exact .inl ⟨rfl, keyStep_key1 c p⟩
  by_cases h2 : v = Config.key2 ∧ c.keyst.get p = .k1
  · obtain ⟨rfl, h2⟩ := h2
    refine .inr ?_
    cases h : c.latch.get p
    · refine .inr (.inl ⟨rfl, h2, rfl, ?_⟩)
      rw [keyStep_key2 h2, release_clear (by simpa using h)]
    · refine .inl ⟨rfl, h2, rfl, ?_⟩
      rw [keyStep_key2 h2, release_set (by simpa using h)]; rfl
  · exact .inr (.inr (.inr ⟨h1, h2, keyStep_other h1 h2⟩))

/-! ## Entering and leaving RUN mode -/

theorem storeEn_start {c : Channel} {d : Word} (hm : c.mden = false) (hd : d[0] = true) :
    c.storeEn d = { c.initRun with mden := true } := by simp [Channel.storeEn, hm, hd]

theorem storeEn_keep {c : Channel} {d : Word} (h : c.mden = true ∨ d[0] = false) :
    c.storeEn d = { c with mden := d[0] } := by
  unfold Channel.storeEn
  rcases h with h | h <;> rw [h] <;> first | rfl | (cases c.mden <;> rfl)

/-- A write to EN starts a run, or changes nothing but `MDEN`. -/
theorem storeEn_cases (c : Channel) (d : Word) :
    (c.mden = false ∧ d[0] = true ∧ c.storeEn d = { c.initRun with mden := true }) ∨
    ((c.mden = true ∨ d[0] = false) ∧ c.storeEn d = { c with mden := d[0] }) := by
  by_cases h : c.mden = false ∧ d[0] = true
  · exact .inl ⟨h.1, h.2, storeEn_start h.1 h.2⟩
  · have h' : c.mden = true ∨ d[0] = false := by
      cases hm : c.mden <;> cases hd : d[0] <;> simp_all
    exact .inr ⟨h', storeEn_keep h'⟩

/-! ## The sub-steps of TICK -/

theorem tick_run {c : Channel} (e o : Bool) (y : SyncLevels) (h : c.mden = true) : c.tick e o y =
    (c.t1 e o).runSteps.t6 (c.t1 e o).evCtr (c.t1 e o).evEnd y := by simp [Channel.tick, h]

theorem tick_config {c : Channel} (e o : Bool) (y : SyncLevels) (h : c.mden = false) : c.tick e o y =
    (c.t1 e o).t6 false false y := by simp [Channel.tick, h]

theorem t1_carrierSum (c : Channel) (e o : Bool) : (c.t1 e o).carrierSum = c.carrierSum := rfl

@[simp] theorem t1_evEnd (c : Channel) (e o : Bool) : (c.t1 e o).evEnd = c.evEnd := rfl

@[simp] theorem t1_evCtr (c : Channel) (e o : Bool) : (c.t1 e o).evCtr = c.evCtr := rfl

theorem t2_phase_toNat (c : Channel) : c.t2.phase.toNat = c.carrierSum % 2 ^ 24 := by
  simp [Config.phaseBits]

theorem sel_eq (m : Code) (a b : Bool) : sel m a b =
    (m == 0b00#2 || (m.getLsbD 0 && a) || (m.getLsbD 1 && b)) := by
  revert m a b; decide

/-- No response code forces nothing (R109). -/
theorem forces_some_group (r : Code) : (forcesUpper r || forcesLower r) = true := by
  revert r; decide

/-- T1 leaves a set latch set. -/
theorem filterLatch_of_set (a : Bool) (f n : FilterCount) : filterLatch a f n true = true := rfl

/-! ## Taking the next request -/

theorem step_eq (s : State) : step s = serve (nextRequest s) (takeRequest s) := rfl

@[simp] theorem takeRequest_chan (s : State) : (takeRequest s).chan = s.chan := by
  unfold takeRequest; split <;> rfl

@[simp] theorem takeRequest_gateOpen (s : State) : (takeRequest s).gateOpen = s.gateOpen := by
  unfold takeRequest; split <;> rfl

@[simp] theorem takeRequest_response (s : State) : (takeRequest s).response = s.response := by
  unfold takeRequest; split <;> rfl

theorem nextRequest_pending {s : State} {r : Request} {rest : List Request} (h : s.pending = r :: rest) :
    nextRequest s = r := by simp [nextRequest, h]

theorem takeRequest_pending {s : State} {r : Request} {rest : List Request} (h : s.pending = r :: rest) :
    takeRequest s = { s with pending := rest } := by simp [takeRequest, h]

/-- Serving a request that asks for a step runs that step. -/
theorem serve_decoded {r : Request} {i : Instr} (h : decodeRequest r = some i) (s : State) :
    serve r s = exec i s := by
  cases r with
  | bus t =>
    simp only [decodeRequest] at h
    cases hd : decode t with
    | error e => rw [hd] at h; exact absurd h (by simp [Except.toOption])
    | ok j =>
      rw [hd] at h
      obtain rfl : j = i := by simpa [Except.toOption] using h
      simp [serve, serveWord, hd]
  | tick e o y => obtain rfl : Instr.tick e o y = i := by simpa [decodeRequest] using h
                  rfl
  | reset => obtain rfl : Instr.reset = i := by simpa [decodeRequest] using h
             rfl
  | clkGate b => exact absurd h (by simp [decodeRequest])

end Sys2Proof.Machine
end

