-- ==== Sys2Proof/Laws/Decode.lean ====
section
/-! SUPPORT. Facts about the transaction word and the register map that the encoding statements rest on. -/

namespace Sys2Proof

/-- The four fields of a word written as a concatenation are read back (R61). -/
theorem BusOp.ofWord_append (sz : BitVec 2) (we : Bool) (off : Offset) (data : Word) :
    BusOp.ofWord (sz ++ BitVec.ofBool we ++ off ++ data) = ⟨sz, we, off, data⟩ := by
  unfold BusOp.ofWord
  congr 1
  · ext i h
    simp only [BitVec.getElem_extractLsb', BitVec.getLsbD_append]
    rw [if_neg (by omega), if_neg (by omega), if_neg (by omega), BitVec.getLsbD_eq_getElem (by omega)]
    congr 1; omega
  · rw [← BitVec.getLsbD_eq_getElem]
    simp only [BitVec.getLsbD_append]
    cases we <;> rfl
  · ext i h
    simp only [BitVec.getElem_extractLsb', BitVec.getLsbD_append]
    rw [if_neg (by omega), if_pos (by omega), BitVec.getLsbD_eq_getElem (by omega)]
    congr 1; omega
  · ext i h
    simp only [BitVec.getElem_extractLsb', BitVec.getLsbD_append]
    rw [if_pos (by omega), BitVec.getLsbD_eq_getElem (by omega)]
    congr 1; omega

theorem BusOp.ofWord_toWord (op : BusOp) : BusOp.ofWord op.toWord = op :=
  BusOp.ofWord_append op.sz op.we op.off op.data

/-- Each register is found at its offset (R62). -/
@[simp] theorem Reg.ofOffset_offset (r : Reg) : Reg.ofOffset r.offset = some r := by
  cases r <;> decide

/-- A register found at an offset has that offset (R62). -/
theorem Reg.offset_of_ofOffset {off : Offset} {r : Reg} (h : Reg.ofOffset off = some r) :
    r.offset = off := by
  have := List.find?_some h
  simpa using this

/-- Every word-aligned offset up to `0x38` holds a register (R40, R62). -/
theorem Reg.ofOffset_mapped (off : Offset) (ha : off.extractLsb' 0 2 = 0#2) (hm : ¬ 0x38#8 < off) :
    ∃ r, Reg.ofOffset off = some r := by
  rw [← Option.isSome_iff_exists]
  revert off; decide

/-- A word access of either direction to a register decodes to its operation (R72). -/
theorem decodeBus_busOp (r : Reg) (we : Bool) (data : Word) :
    decodeBus (r.busOp we data) = .ok (if we then r.writeInstr data else r.readInstr) := by
  have ha : r.offset.extractLsb' 0 2 = 0#2 := by cases r <;> decide
  have hm : ¬ 0x38#8 < r.offset := by cases r <;> decide
  unfold decodeBus Reg.busOp
  rw [if_neg (by simp [ha]), if_neg hm, Reg.ofOffset_offset]

/-- A word that decodes is a write or a read of a register: no bus word is a `TICK` or a `RESET` (R60). -/
theorem decode_ok_cases {t : TxWord} {i : Instr} (h : decode t = .ok i) :
    (∃ (r : Reg) (v : Word), i = r.writeInstr v) ∨ (∃ r : Reg, i = r.readInstr) := by
  unfold decode decodeBus at h
  split at h
  · cases h
  · split at h
    · cases h
    · split at h
      · cases h
      · rename_i r _
        cases hw : (BusOp.ofWord t).we
        · rw [hw] at h; cases h; exact .inr ⟨r, rfl⟩
        · rw [hw] at h; cases h; exact .inl ⟨r, _, rfl⟩

/-- The word access `sz = 0b10` of the named direction to a register, written out as in R61. -/
theorem decode_append (r : Reg) (we : Bool) (data : Word) :
    decode (0b10#2 ++ BitVec.ofBool we ++ r.offset ++ data) =
      .ok (if we then r.writeInstr data else r.readInstr) := by
  unfold decode
  rw [BusOp.ofWord_append]
  exact decodeBus_busOp r we data

/-- The part of a transaction word a row of the table fixes, for a word access (R61). -/
theorem toWord_masked (r : Reg) (we : Bool) (data : Word) :
    (r.busOp we data).toWord &&& 0x7FF00000000#43 =
      (0b10#2 ++ BitVec.ofBool we ++ r.offset).setWidth 43 <<< 32 := by
  have hmask : (0x7FF00000000#43) = (0b11111111111#11 ++ 0#32 : BitVec 43) := by decide
  unfold BusOp.toWord Reg.busOp
  rw [hmask]
  generalize (0b10#2 ++ BitVec.ofBool we ++ r.offset) = a
  ext i hi
  simp only [BitVec.getElem_and, BitVec.getElem_append, BitVec.getElem_shiftLeft, BitVec.getElem_setWidth]
  by_cases h : i < 32
  · simp [h]
  · have h1 : i - 32 < 11 := by omega
    have h2 : (0b11111111111#11)[i - 32] = true := by
      generalize i - 32 = j at h1; revert j; decide
    rw [BitVec.getLsbD_eq_getElem h1]
    simp [h, h2]

end Sys2Proof
end

