-- ==== Sys2Proof/Laws/PerInstr.lean ====
section
/-! SUPPORT. Statements made instruction by instruction: the word of a bus operation matches its row of
spec/opcode_table.json (R61), and a step that no bus word encodes has none (R60). -/

namespace Sys2Proof.Laws.WordMatchesTable

/-- The `match` of the row of spec/opcode_table.json a constructor stands for. -/
def rowMatch : Instr → Option TxWord
  | .wrEn _ => some 0x50000000000
  | .rdEn => some 0x40000000000
  | .wrPom _ => some 0x50400000000
  | .rdPom => some 0x40400000000
  | .wrWfc _ => some 0x50800000000
  | .rdWfc => some 0x40800000000
  | .wrOpl _ => some 0x50C00000000
  | .rdOpl => some 0x40C00000000
  | .wrDtr _ => some 0x51000000000
  | .rdDtr => some 0x41000000000
  | .wrRate _ => some 0x51400000000
  | .rdRate => some 0x41400000000
  | .wrCmpu _ => some 0x51800000000
  | .rdCmpu => some 0x41800000000
  | .wrCmpv _ => some 0x51C00000000
  | .rdCmpv => some 0x41C00000000
  | .wrCmpw _ => some 0x52000000000
  | .rdCmpw => some 0x42000000000
  | .wrEmgcr _ => some 0x52400000000
  | .rdEmgcr => some 0x42400000000
  | .wrOvvcr _ => some 0x52800000000
  | .rdOvvcr => some 0x42800000000
  | .wrEmgrel _ => some 0x52C00000000
  | .rdEmgrel => some 0x42C00000000
  | .wrOvvrel _ => some 0x53000000000
  | .rdOvvrel => some 0x43000000000
  | .wrEmgsta _ => some 0x53400000000
  | .rdEmgsta => some 0x43400000000
  | .wrOvvsta _ => some 0x53800000000
  | .rdOvvsta => some 0x43800000000
  | .tick _ _ _ => none
  | .reset => none

/-- Under the row's mask the encoded word is the row's `match`. -/
def Statement (i : Instr) : Prop :=
  (encodeWord i).map (fun t => t &&& 0x7FF00000000#43) = rowMatch i

theorem of_busOp {i : Instr} {r : Reg} {we : Bool} {data : Word} {m : TxWord}
    (he : encodeWord i = some (r.busOp we data).toWord) (hr : rowMatch i = some m)
    (hm : (0b10#2 ++ BitVec.ofBool we ++ r.offset).setWidth 43 <<< 32 = m) : Statement i := by
  unfold Statement
  rw [he, hr, Option.map_some, toWord_masked, hm]

theorem wrEn (data : Word) : Statement (.wrEn data) := of_busOp rfl rfl (by decide)

theorem rdEn : Statement .rdEn := of_busOp rfl rfl (by decide)

theorem wrPom (data : Word) : Statement (.wrPom data) := of_busOp rfl rfl (by decide)

theorem rdPom : Statement .rdPom := of_busOp rfl rfl (by decide)

theorem wrWfc (data : Word) : Statement (.wrWfc data) := of_busOp rfl rfl (by decide)

theorem rdWfc : Statement .rdWfc := of_busOp rfl rfl (by decide)

theorem wrOpl (data : Word) : Statement (.wrOpl data) := of_busOp rfl rfl (by decide)

theorem rdOpl : Statement .rdOpl := of_busOp rfl rfl (by decide)

theorem wrDtr (data : Word) : Statement (.wrDtr data) := of_busOp rfl rfl (by decide)

theorem rdDtr : Statement .rdDtr := of_busOp rfl rfl (by decide)

theorem wrRate (data : Word) : Statement (.wrRate data) := of_busOp rfl rfl (by decide)

theorem rdRate : Statement .rdRate := of_busOp rfl rfl (by decide)

theorem wrCmpu (data : Word) : Statement (.wrCmpu data) := of_busOp rfl rfl (by decide)

theorem rdCmpu : Statement .rdCmpu := of_busOp rfl rfl (by decide)

theorem wrCmpv (data : Word) : Statement (.wrCmpv data) := of_busOp rfl rfl (by decide)

theorem rdCmpv : Statement .rdCmpv := of_busOp rfl rfl (by decide)

theorem wrCmpw (data : Word) : Statement (.wrCmpw data) := of_busOp rfl rfl (by decide)

theorem rdCmpw : Statement .rdCmpw := of_busOp rfl rfl (by decide)

theorem wrEmgcr (data : Word) : Statement (.wrEmgcr data) := of_busOp rfl rfl (by decide)

theorem rdEmgcr : Statement .rdEmgcr := of_busOp rfl rfl (by decide)

theorem wrOvvcr (data : Word) : Statement (.wrOvvcr data) := of_busOp rfl rfl (by decide)

theorem rdOvvcr : Statement .rdOvvcr := of_busOp rfl rfl (by decide)

theorem wrEmgrel (data : Word) : Statement (.wrEmgrel data) := of_busOp rfl rfl (by decide)

theorem rdEmgrel : Statement .rdEmgrel := of_busOp rfl rfl (by decide)

theorem wrOvvrel (data : Word) : Statement (.wrOvvrel data) := of_busOp rfl rfl (by decide)

theorem rdOvvrel : Statement .rdOvvrel := of_busOp rfl rfl (by decide)

theorem wrEmgsta (data : Word) : Statement (.wrEmgsta data) := of_busOp rfl rfl (by decide)

theorem rdEmgsta : Statement .rdEmgsta := of_busOp rfl rfl (by decide)

theorem wrOvvsta (data : Word) : Statement (.wrOvvsta data) := of_busOp rfl rfl (by decide)

theorem rdOvvsta : Statement .rdOvvsta := of_busOp rfl rfl (by decide)

theorem tick (emgIn ovvIn : Bool) (syncIn : SyncLevels) : Statement (.tick emgIn ovvIn syncIn) := rfl

theorem reset : Statement .reset := rfl

end Sys2Proof.Laws.WordMatchesTable
end

