-- ==== Sys2Proof/Laws/Step.lean ====
section
/-! SUPPORT. What a step can do, said once: a register write, a register read, and every step of the
machine. -/

namespace Sys2Proof.Machine

/-- The registers under the configuration lock (R81). -/
def isLocked : Reg → Bool
  | .pom | .wfc | .opl | .dtr => true
  | .en | .rate | .cmpu | .cmpv | .cmpw | .emgcr | .ovvcr | .emgrel | .ovvrel | .emgsta | .ovvsta => false

/-- What an accepted write of `v` to register `r` makes of the channel. -/
def written (r : Reg) (v : Word) (c : Channel) : Channel :=
  match r with
  | .en => c.storeEn v
  | .pom => c.storePom v
  | .wfc => c.storeWfc v
  | .opl => c.storeOpl v
  | .dtr => c.storeDtr v
  | .rate => c.storeRate v
  | .cmpu => c.storeCmp .u v
  | .cmpv => c.storeCmp .v v
  | .cmpw => c.storeCmp .w v
  | .emgcr => c.storeCr .emg v
  | .ovvcr => c.storeCr .ovv v
  | .emgrel => c.keyStep .emg v
  | .ovvrel => c.keyStep .ovv v
  | .emgsta => c
  | .ovvsta => c

/-- The fifteen writes at once. -/
theorem exec_writeInstr (r : Reg) (v : Word) (s : State) :
    exec (r.writeInstr v) s = .next
      (if isLocked r then lockedWrite (written r v) s else busWrite (written r v) s) := by
  cases r <;> rfl

/-- The fifteen reads at once. -/
theorem exec_readInstr (r : Reg) (s : State) :
    exec r.readInstr s = .next (busRead (fun c => c.regWord r) s) := by
  cases r <;> rfl

/-- What serving a request can do to the channel: nothing, the reset table, one clock edge, or one accepted
register write, which the configuration lock lets through. -/
theorem serve_chan {r : Request} {s t : State} (h : serve r s = .next t) :
    t.chan = s.chan ∨
    (r = .reset ∧ t.chan = Channel.reset Config.latchRst) ∨
    (∃ e o y, r = .tick e o y ∧ s.gateOpen = true ∧ t.chan = s.chan.tick e o y) ∨
    (∃ q v, decodeRequest r = some (Reg.writeInstr q v) ∧ s.gateOpen = true ∧
      (isLocked q = true → s.chan.mden = false) ∧ t.chan = written q v s.chan) := by
  cases r with
  | clkGate b => cases h; exact .inl rfl
  | reset => cases h; exact .inr (.inl ⟨rfl, rfl⟩)
  | tick e o y =>
    cases h
    cases hg : s.gateOpen
    · exact .inl rfl
    · exact .inr (.inr (.inl ⟨e, o, y, rfl, rfl, rfl⟩))
  | bus w =>
    simp only [serve, serveWord] at h
    cases hd : decode w with
    | error e => rw [hd] at h; cases h; exact .inl (refuseBus_chan _ _ _)
    | ok i =>
      rw [hd] at h
      obtain ⟨q, v, rfl⟩ | ⟨q, rfl⟩ := decode_ok_cases hd
      · have hi : decodeRequest (.bus w) = some (q.writeInstr v) := by simp [decodeRequest, hd, Except.toOption]
        simp only [exec_writeInstr] at h
        cases h
        cases hl : isLocked q
        · obtain ⟨hg, he⟩ | ⟨hg, he⟩ := busWrite_cases (written q v) s
          · exact .inr (.inr (.inr ⟨q, v, hi, hg, by simp [hl], by simp [he]⟩))
          · exact .inl (by simp [he])
        · obtain ⟨hg, hm, he⟩ | ⟨hg, hm, he⟩ | ⟨hg, he⟩ := lockedWrite_cases (written q v) s
          · exact .inr (.inr (.inr ⟨q, v, hi, hg, fun _ => hm, by simp [he]⟩))
          · exact .inl (by simp [he])
          · exact .inl (by simp [he])
      · simp only [exec_readInstr] at h; cases h; exact .inl (busRead_chan _ _)

/-- Serving a request answers a next state and leaves the other requests pending. -/
theorem serve_next (r : Request) (s : State) : ∃ t, serve r s = .next t ∧ t.pending = s.pending ∧
    ((∀ b, r ≠ .clkGate b) → t.gateOpen = s.gateOpen) := by
  have hw : ∀ f : Channel → Channel, (busWrite f s).pending = s.pending ∧ (busWrite f s).gateOpen = s.gateOpen := by
    intro f; obtain ⟨_, he⟩ | ⟨_, he⟩ := busWrite_cases f s <;> simp [he]
  have hl : ∀ f : Channel → Channel,
      (lockedWrite f s).pending = s.pending ∧ (lockedWrite f s).gateOpen = s.gateOpen := by
    intro f; obtain ⟨_, _, he⟩ | ⟨_, _, he⟩ | ⟨_, he⟩ := lockedWrite_cases f s <;> simp [he]
  have hr : ∀ f : Channel → Word, (busRead f s).pending = s.pending ∧ (busRead f s).gateOpen = s.gateOpen := by
    intro f; obtain ⟨_, he⟩ | ⟨_, he⟩ := busRead_cases f s <;> simp [he]
  cases r with
  | clkGate b => exact ⟨_, rfl, rfl, fun h => absurd rfl (h b)⟩
  | reset => exact ⟨_, rfl, rfl, fun _ => rfl⟩
  | tick e o y => exact ⟨_, rfl, rfl, fun _ => rfl⟩
  | bus w =>
    simp only [serve, serveWord]
    cases hd : decode w with
    | error e =>
      refine ⟨_, rfl, ?_, fun _ => ?_⟩ <;> simp only [refuseBus] <;> split <;> try split
      all_goals rfl
    | ok i =>
      obtain ⟨q, v, rfl⟩ | ⟨q, rfl⟩ := decode_ok_cases hd
      · simp only [exec_writeInstr]
        refine ⟨_, rfl, ?_, fun _ => ?_⟩ <;> split
        · exact (hl _).1
        · exact (hw _).1
        · exact (hl _).2
        · exact (hw _).2
      · simp only [exec_readInstr]
        exact ⟨_, rfl, (hr _).1, fun _ => (hr _).2⟩

/-- What a step can do to the channel. -/
theorem step_chan {s t : State} (h : step s = .next t) :
    t.chan = s.chan ∨
    (nextRequest s = .reset ∧ t.chan = Channel.reset Config.latchRst) ∨
    (∃ e o y, nextRequest s = .tick e o y ∧ s.gateOpen = true ∧ t.chan = s.chan.tick e o y) ∨
    (∃ q v, decodeRequest (nextRequest s) = some (Reg.writeInstr q v) ∧ s.gateOpen = true ∧
      (isLocked q = true → s.chan.mden = false) ∧ t.chan = written q v s.chan) := by
  simpa using serve_chan h

end Sys2Proof.Machine
end

