-- ==== Sys2Proof/Laws/Software.lean ====
section
/-! SUPPORT. The pseudo-operations of R76: what each call is as steps, the states of a path (R100) and the
numbers of the responses (R171). -/

namespace Sys2Proof.Machine

/-! ## Calls -/

@[simp] theorem andThen_next (s : State) (f : State → Host.Outcome State Fault Refusal) :
    andThen (.next s) f = f s := rfl

@[simp] theorem serveAll_nil (s : State) : serveAll [] s = .next s := rfl

@[simp] theorem serveAll_cons (r : Request) (rest : List Request) (s : State) :
    serveAll (r :: rest) s = andThen (serve r s) (serveAll rest) := rfl

/-- Two lists of requests, one after the other. -/
theorem serveAll_append (rs rs' : List Request) (s : State) :
    serveAll (rs ++ rs') s = andThen (serveAll rs s) (serveAll rs') := by
  induction rs generalizing s with
  | nil => rfl
  | cons r rest ih =>
    rw [List.cons_append, serveAll_cons, serveAll_cons]
    obtain ⟨t, ht, -⟩ := serve_next r s
    rw [ht, andThen_next, andThen_next, ih]

/-- A list of requests is always served to its end. -/
theorem serveAll_next (rs : List Request) (s : State) : ∃ t, serveAll rs s = .next t := by
  induction rs generalizing s with
  | nil => exact ⟨s, rfl⟩
  | cons r rest ih =>
    obtain ⟨t, ht, -⟩ := serve_next r s
    rw [serveAll_cons, ht, andThen_next]
    exact ih t

/-- A read of a control register always returns a word, so that `releaseProtection` always has one to write
back. -/
theorem readControl_word (p : Path) (s : State) :
    ∃ t v, serve (encode (readControl p)) s = .next t ∧ t.response.word = some v := by
  have hd : decodeRequest (encode (readControl p)) = some (readControl p) := by cases p <;> decide
  have he : exec (readControl p) s = .next (busRead (fun c => c.crWord p) s) := by cases p <;> rfl
  rw [serve_decoded hd, he]
  obtain ⟨-, h⟩ | ⟨-, h⟩ := busRead_cases (fun c => c.crWord p) s <;> exact ⟨_, _, rfl, by rw [h]; rfl⟩

/-! ## The states of a path -/

@[simp] theorem inPathState_armed (c : Channel) (p : Path) :
    c.inPathState p .armed = (c.pen.get p && !c.latch.get p) := rfl

@[simp] theorem inPathState_tripped (c : Channel) (p : Path) :
    c.inPathState p .tripped = c.latch.get p := rfl

@[simp] theorem inPathState_released (c : Channel) (p : Path) :
    c.inPathState p .released = (!c.pen.get p && !c.latch.get p) := rfl

@[simp] theorem inPathState_latchedDisarmed (c : Channel) (p : Path) :
    c.inPathState p .latchedDisarmed = (!c.pen.get p && c.latch.get p) := rfl

/-- A latched, disarmed path is a tripped one (R100). -/
theorem tripped_of_latchedDisarmed {c : Channel} {p : Path} (h : c.inPathState p .latchedDisarmed = true) :
    c.inPathState p .tripped = true := by
  simp only [inPathState_latchedDisarmed, Bool.and_eq_true] at h
  exact h.2

/-! ## Responses -/

@[simp] theorem number_none : Response.number .none = Option.none := rfl

@[simp] theorem number_okay : Response.number .okay = some 0 := rfl

@[simp] theorem number_okayData (v : Word) : Response.number (.okayData v) = some 0 := rfl

@[simp] theorem number_error (e : BusError) : Response.number (.error e) = some (errorNumber e) := rfl

@[simp] theorem word_okayData (v : Word) : Response.word (.okayData v) = some v := rfl

end Sys2Proof.Machine
end

