-- ==== Sys2Proof/Laws/Tick.lean ====
section
/-! SUPPORT. What a `TICK` can do to each element of the channel, said once (R150, R151). -/

namespace Sys2Proof.Machine

variable (c : Channel) (e o : Bool) (y : SyncLevels)

/-- A property of the channel that both forms of a `TICK` have, a `TICK` has. -/
theorem tick_of {α : Type} (f : Channel → α) (a : α)
    (hr : f ((c.t1 e o).runSteps.t6 (c.t1 e o).evCtr (c.t1 e o).evEnd y) = a)
    (hc : f ((c.t1 e o).t6 false false y) = a) : f (c.tick e o y) = a := by
  by_cases h : c.mden = true
  · rw [tick_run e o y h]; exact hr
  · rw [tick_config e o y (by simpa using h)]; exact hc

/-! ## What no clock edge changes -/

@[simp] theorem runSteps_mden : c.runSteps.mden = c.mden := by
  simp [Channel.runSteps]

@[simp] theorem runSteps_upmd : c.runSteps.upmd = c.upmd := by
  simp [Channel.runSteps]

@[simp] theorem runSteps_lomd : c.runSteps.lomd = c.lomd := by
  simp [Channel.runSteps]

@[simp] theorem runSteps_car : c.runSteps.car = c.car := by
  simp [Channel.runSteps]

@[simp] theorem runSteps_dtymd : c.runSteps.dtymd = c.dtymd := by
  simp [Channel.runSteps]

@[simp] theorem runSteps_dtcren : c.runSteps.dtcren = c.dtcren := by
  simp [Channel.runSteps]

@[simp] theorem runSteps_dsyncs : c.runSteps.dsyncs = c.dsyncs := by
  simp [Channel.runSteps]

@[simp] theorem runSteps_polh : c.runSteps.polh = c.polh := by
  simp [Channel.runSteps]

@[simp] theorem runSteps_poll : c.runSteps.poll = c.poll := by
  simp [Channel.runSteps]

@[simp] theorem runSteps_syncs : c.runSteps.syncs = c.syncs := by
  simp [Channel.runSteps]

@[simp] theorem runSteps_psyncs : c.runSteps.psyncs = c.psyncs := by
  simp [Channel.runSteps]

@[simp] theorem runSteps_dtr : c.runSteps.dtr = c.dtr := by
  simp [Channel.runSteps]

@[simp] theorem runSteps_rate : c.runSteps.rate = c.rate := by
  simp [Channel.runSteps]

@[simp] theorem runSteps_cmpb : c.runSteps.cmpb = c.cmpb := by
  simp [Channel.runSteps]

@[simp] theorem runSteps_pen : c.runSteps.pen = c.pen := by
  simp [Channel.runSteps]

@[simp] theorem runSteps_inpol : c.runSteps.inpol = c.inpol := by
  simp [Channel.runSteps]

@[simp] theorem runSteps_resp : c.runSteps.resp = c.resp := by
  simp [Channel.runSteps]

@[simp] theorem runSteps_filt : c.runSteps.filt = c.filt := by
  simp [Channel.runSteps]

@[simp] theorem runSteps_keyst : c.runSteps.keyst = c.keyst := by
  simp [Channel.runSteps]

@[simp] theorem runSteps_latch : c.runSteps.latch = c.latch := by
  simp [Channel.runSteps]

@[simp] theorem runSteps_fcnt : c.runSteps.fcnt = c.fcnt := by
  simp [Channel.runSteps]

@[simp] theorem runSteps_pgateU : c.runSteps.pgateU = c.pgateU := by
  simp [Channel.runSteps]

@[simp] theorem runSteps_pgateL : c.runSteps.pgateL = c.pgateL := by
  simp [Channel.runSteps]


@[simp] theorem tick_mden : (c.tick e o y).mden = c.mden :=
  tick_of c e o y (·.mden) _ (by simp) (by simp)

@[simp] theorem tick_upmd : (c.tick e o y).upmd = c.upmd :=
  tick_of c e o y (·.upmd) _ (by simp) (by simp)

@[simp] theorem tick_lomd : (c.tick e o y).lomd = c.lomd :=
  tick_of c e o y (·.lomd) _ (by simp) (by simp)

@[simp] theorem tick_car : (c.tick e o y).car = c.car :=
  tick_of c e o y (·.car) _ (by simp) (by simp)

@[simp] theorem tick_dtymd : (c.tick e o y).dtymd = c.dtymd :=
  tick_of c e o y (·.dtymd) _ (by simp) (by simp)

@[simp] theorem tick_dtcren : (c.tick e o y).dtcren = c.dtcren :=
  tick_of c e o y (·.dtcren) _ (by simp) (by simp)

@[simp] theorem tick_dsyncs : (c.tick e o y).dsyncs = c.dsyncs :=
  tick_of c e o y (·.dsyncs) _ (by simp) (by simp)

@[simp] theorem tick_polh : (c.tick e o y).polh = c.polh :=
  tick_of c e o y (·.polh) _ (by simp) (by simp)

@[simp] theorem tick_poll : (c.tick e o y).poll = c.poll :=
  tick_of c e o y (·.poll) _ (by simp) (by simp)

@[simp] theorem tick_syncs : (c.tick e o y).syncs = c.syncs :=
  tick_of c e o y (·.syncs) _ (by simp) (by simp)

@[simp] theorem tick_psyncs : (c.tick e o y).psyncs = c.psyncs :=
  tick_of c e o y (·.psyncs) _ (by simp) (by simp)

@[simp] theorem tick_dtr : (c.tick e o y).dtr = c.dtr :=
  tick_of c e o y (·.dtr) _ (by simp) (by simp)

@[simp] theorem tick_rate : (c.tick e o y).rate = c.rate :=
  tick_of c e o y (·.rate) _ (by simp) (by simp)

@[simp] theorem tick_cmpb : (c.tick e o y).cmpb = c.cmpb :=
  tick_of c e o y (·.cmpb) _ (by simp) (by simp)

@[simp] theorem tick_pen : (c.tick e o y).pen = c.pen :=
  tick_of c e o y (·.pen) _ (by simp) (by simp)

@[simp] theorem tick_inpol : (c.tick e o y).inpol = c.inpol :=
  tick_of c e o y (·.inpol) _ (by simp) (by simp)

@[simp] theorem tick_resp : (c.tick e o y).resp = c.resp :=
  tick_of c e o y (·.resp) _ (by simp) (by simp)

@[simp] theorem tick_filt : (c.tick e o y).filt = c.filt :=
  tick_of c e o y (·.filt) _ (by simp) (by simp)

@[simp] theorem tick_keyst : (c.tick e o y).keyst = c.keyst :=
  tick_of c e o y (·.keyst) _ (by simp) (by simp)

/-! ## The trip filter and latch -/

@[simp] theorem tick_latch : (c.tick e o y).latch = (c.t1 e o).latch :=
  tick_of c e o y (·.latch) _ (by simp) (by simp)

@[simp] theorem tick_fcnt : (c.tick e o y).fcnt = (c.t1 e o).fcnt :=
  tick_of c e o y (·.fcnt) _ (by simp) (by simp)

/-! ## The run state: frozen in CONFIG mode, advanced in RUN mode -/

theorem tick_phase_config (h : c.mden = false) : (c.tick e o y).phase = c.phase := by
  rw [tick_config e o y h]; rfl

theorem tick_phase_run (h : c.mden = true) : (c.tick e o y).phase = c.runSteps.phase := by
  rw [tick_run e o y h]; rfl

theorem tick_cmpa_config (h : c.mden = false) : (c.tick e o y).cmpa = c.cmpa := by
  rw [tick_config e o y h]; rfl

theorem tick_cmpa_run (h : c.mden = true) : (c.tick e o y).cmpa = c.runSteps.cmpa := by
  rw [tick_run e o y h]; rfl

theorem tick_hold_config (h : c.mden = false) : (c.tick e o y).hold = c.hold := by
  rw [tick_config e o y h]; rfl

theorem tick_hold_run (h : c.mden = true) : (c.tick e o y).hold = c.runSteps.hold := by
  rw [tick_run e o y h]; rfl

theorem tick_side_config (h : c.mden = false) : (c.tick e o y).side = c.side := by
  rw [tick_config e o y h]; rfl

theorem tick_side_run (h : c.mden = true) : (c.tick e o y).side = c.runSteps.side := by
  rw [tick_run e o y h]; rfl

theorem tick_cnt_config (h : c.mden = false) : (c.tick e o y).cnt = c.cnt := by
  rw [tick_config e o y h]; rfl

theorem tick_cnt_run (h : c.mden = true) : (c.tick e o y).cnt = c.runSteps.cnt := by
  rw [tick_run e o y h]; rfl

/-! ## The protection-output buffer -/

theorem tick_wantU : (c.tick e o y).wantU = (c.t1 e o).wantU := by
  simp only [Channel.wantU, tick_latch, tick_resp, t1_resp]

theorem tick_wantL : (c.tick e o y).wantL = (c.t1 e o).wantL := by
  simp only [Channel.wantL, tick_latch, tick_resp, t1_resp]

/-- The buffer after a `TICK`: forced where a latch wants it, else kept until an update event (R110). -/
theorem tick_pgate : ∃ upd : Bool,
    (c.mden = false → upd = true) ∧
    (c.mden = true → upd = c.bufferUpdate c.evCtr c.evEnd y) ∧
    (c.tick e o y).pgateU = ((c.tick e o y).wantU || (c.pgateU && !upd)) ∧
    (c.tick e o y).pgateL = ((c.tick e o y).wantL || (c.pgateL && !upd)) := by
  rw [tick_wantU, tick_wantL]
  cases h : c.mden
  · refine ⟨true, by simp, by simp, ?_, ?_⟩ <;> rw [tick_config e o y h] <;>
      simp [Channel.bufferUpdate, h]
  · refine ⟨c.bufferUpdate c.evCtr c.evEnd y, by simp, by simp, ?_, ?_⟩ <;> rw [tick_run e o y h] <;>
      simp [Channel.bufferUpdate, Channel.wantU, Channel.wantL]

/-- After every `TICK` the buffer forces at least what the latches want (R110). -/
theorem tick_forces : ((c.tick e o y).wantU = true → (c.tick e o y).pgateU = true) ∧
    ((c.tick e o y).wantL = true → (c.tick e o y).pgateL = true) := by
  obtain ⟨upd, -, -, hu, hl⟩ := tick_pgate c e o y
  exact ⟨fun h => by rw [hu, h]; rfl, fun h => by rw [hl, h]; rfl⟩

end Sys2Proof.Machine
end

