-- ==== Sys2Proof/Tests/Slice0.lean ====
section
/-! SUPPORT. The model's own tests. The expected values are those of spec/95_test_vectors.md (the vector is
named) or are worked out by hand from the rule named; none is the model's own answer. Then one witness for
each obligation that has hypotheses: a concrete state and operands that meet them. -/

namespace Sys2Proof.Tests

open Sys2Proof.Machine

/-! ## Well-formedness (R60, R61) -/

/-- `0b11` is not a size. -/
theorem test_size_code_three_is_ill_formed : ¬ BusOp.wf ⟨0b11, true, 0x00, 1⟩ := by decide

/-- The three codes that are sizes. -/
theorem test_sizes_are_well_formed :
    BusOp.wf ⟨0b00, true, 0x00, 1⟩ ∧ BusOp.wf ⟨0b01, false, 0x02, 0⟩ ∧ BusOp.wf ⟨0b10, true, 0xFC, 1⟩ := by
  decide

/-- A number with bit 43 set is no transaction word; the largest transaction word has 43 ones. -/
theorem test_transaction_word_has_43_bits : ¬ IsTxWord 0x80000000000 ∧ IsTxWord 0x7FFFFFFFFFF := by decide

/-- No instruction is ill-formed (R73). -/
theorem test_instructions_are_well_formed :
    Instr.wf (.wrPom 0xFFFFFFFF) = true ∧ Instr.wf (.tick true false 0b101) = true := by decide

/-! ## Decoding: the word of each bus operation as spec/95_test_vectors.md section 2.1 writes it -/

theorem test_decode_wrEn : decode 0x50000000001 = .ok (.wrEn 0x1) := by decide

theorem test_decode_rdEn : decode 0x40000000000 = .ok .rdEn := by decide

theorem test_decode_wrPom : decode 0x50400000002 = .ok (.wrPom 0x2) := by decide

theorem test_decode_rdPom : decode 0x40400000000 = .ok .rdPom := by decide

theorem test_decode_wrWfc : decode 0x508000001D5 = .ok (.wrWfc 0x1D5) := by decide

theorem test_decode_rdWfc : decode 0x40800000000 = .ok .rdWfc := by decide

theorem test_decode_wrOpl : decode 0x50C00000027 = .ok (.wrOpl 0x27) := by decide

theorem test_decode_rdOpl : decode 0x40C00000000 = .ok .rdOpl := by decide

theorem test_decode_wrDtr : decode 0x51000000002 = .ok (.wrDtr 0x2) := by decide

theorem test_decode_rdDtr : decode 0x41000000000 = .ok .rdDtr := by decide

theorem test_decode_wrRate : decode 0x51400100000 = .ok (.wrRate 0x100000) := by decide

theorem test_decode_rdRate : decode 0x41400000000 = .ok .rdRate := by decide

theorem test_decode_wrCmpu : decode 0x51800004000 = .ok (.wrCmpu 0x4000) := by decide

theorem test_decode_rdCmpu : decode 0x41800000000 = .ok .rdCmpu := by decide

theorem test_decode_wrCmpv : decode 0x51C00002000 = .ok (.wrCmpv 0x2000) := by decide

theorem test_decode_rdCmpv : decode 0x41C00000000 = .ok .rdCmpv := by decide

theorem test_decode_wrCmpw : decode 0x52000008000 = .ok (.wrCmpw 0x8000) := by decide

theorem test_decode_rdCmpw : decode 0x42000000000 = .ok .rdCmpw := by decide

theorem test_decode_wrEmgcr : decode 0x52400000037 = .ok (.wrEmgcr 0x37) := by decide

theorem test_decode_rdEmgcr : decode 0x42400000000 = .ok .rdEmgcr := by decide

theorem test_decode_wrOvvcr : decode 0x52800000000 = .ok (.wrOvvcr 0x0) := by decide

theorem test_decode_rdOvvcr : decode 0x42800000000 = .ok .rdOvvcr := by decide

theorem test_decode_wrEmgrel : decode 0x52C0000005A = .ok (.wrEmgrel 0x5A) := by decide

theorem test_decode_rdEmgrel : decode 0x42C00000000 = .ok .rdEmgrel := by decide

theorem test_decode_wrOvvrel : decode 0x530000000A5 = .ok (.wrOvvrel 0xA5) := by decide

theorem test_decode_rdOvvrel : decode 0x43000000000 = .ok .rdOvvrel := by decide

theorem test_decode_wrEmgsta : decode 0x53400000000 = .ok (.wrEmgsta 0x0) := by decide

theorem test_decode_rdEmgsta : decode 0x43400000000 = .ok .rdEmgsta := by decide

theorem test_decode_wrOvvsta : decode 0x53800000000 = .ok (.wrOvvsta 0x0) := by decide

theorem test_decode_rdOvvsta : decode 0x43800000000 = .ok .rdOvvsta := by decide

/-- A read ignores its data bits (R61). -/
theorem test_decode_read_ignores_data : decode 0x434DEADBEEF = .ok .rdEmgsta := by decide

/-- `TICK` and `RESET` have no word (R60); the request of each decodes to it. -/
theorem test_requests_decode :
    decodeRequest (.tick true false 0b010) = some (.tick true false 0b010) ∧
      decodeRequest .reset = some .reset ∧ encodeWord (.tick true true 0) = none ∧
      encodeWord .reset = none := by decide

/-- V60.1 to V60.5, V60.10, V60.11: a wrong size or alignment, whatever the offset; the size code `0b11`. -/
theorem test_bad_access :
    decode 0x11000000005 = .error .badAccess ∧ decode 0x31000000005 = .error .badAccess ∧
      decode 0x51200000005 = .error .badAccess ∧ decode 0x40100000000 = .error .badAccess ∧
      decode 0x20200000000 = .error .badAccess ∧ decode 0x23E00000000 = .error .badAccess ∧
      decode 0x1FF00000001 = .error .badAccess ∧ decode 0x71000000005 = .error .badAccess := by decide

/-- V60.6 to V60.9: the first and the last offset with no register. -/
theorem test_unmapped :
    decode 0x43C00000000 = .error .unmapped ∧ decode 0x53C00000001 = .error .unmapped ∧
      decode 0x4FC00000000 = .error .unmapped ∧ decode 0x540FFFFFFFF = .error .unmapped := by decide

/-- The words of the encoder are those of the spec's table. -/
theorem test_encode_words :
    encodeWord (.wrWfc 0x1D5) = some 0x508000001D5 ∧ encodeWord .rdRate = some 0x41400000000 ∧
      encodeWord (.wrOvvrel 0xA5) = some 0x530000000A5 := by decide

/-- The numbering of spec/opcode_table.json, and a number the decoder rejects. -/
theorem test_table_word :
    decodeTableWord 48 0x508000001D5 = some (.wrWfc 0x1D5) ∧ decodeTableWord 48 0x43C00000000 = none := by
  decide

/-! ## Small states -/

/-- The channel after `RESET` with `LATCH_RST = 0,0`, the clock gate open, nothing pending. -/
def quiet : State where
  chan := Channel.reset (fun _ => false)
  gateOpen := true
  response := .none
  pending := []
  draws := 0

/-- The same with `LATCH_RST = 1,1`. -/
def latched : State :=
  { quiet with chan := Channel.reset (fun _ => true) }

/-- RUN mode with `WFC = 0x1D5`, `OPL = 0x27`, `DTR = 2` (V40.17), both paths armed, nothing forced. -/
def running : State :=
  { quiet with
    chan :=
      { Channel.reset (fun _ => false) with
        mden := true, car := ⟨1, 1, 1⟩, dtymd := true, dtcren := true, dsyncs := 1, polh := true
        poll := true, syncs := 1, psyncs := 2, dtr := 2, rate := 0x100000, pgateU := false
        pgateL := false } }

/-- The clock gate closed. -/
def gated : State := { latched with gateOpen := false }

/-- A path in RUN mode that has tripped and whose first key has been accepted. -/
def keyed : State :=
  { latched with chan := { latched.chan with mden := true, keyst := ⟨.k1, .k1⟩ } }

/-- The state after one instruction. -/
def after (i : Instr) (s : State) : State :=
  match exec i s with
  | .next t => t
  | .fault _ => s
  | .refused _ => s

/-- The word the last step returned. -/
def readWord (s : State) : Option Word :=
  match s.response with
  | .okayData v => some v
  | .none => none
  | .okay => none
  | .error _ => none

/-! ## Writes: V40.1 to V40.16 and the lock, V40.17 to V40.20 -/

/-- V40.1 -/
theorem test_wrPom : (after (.wrPom 0xFFFFFFFF) quiet).response = .okay ∧
    (after (.wrPom 0xFFFFFFFF) quiet).chan.regWord .pom = 3 := by decide

/-- V40.2 -/
theorem test_wrWfc : (after (.wrWfc 0xFFFFFFFF) quiet).response = .okay ∧
    (after (.wrWfc 0xFFFFFFFF) quiet).chan.regWord .wfc = 0x3FF := by decide

/-- V40.3 -/
theorem test_wrOpl : (after (.wrOpl 0xFFFFFFFF) quiet).response = .okay ∧
    (after (.wrOpl 0xFFFFFFFF) quiet).chan.regWord .opl = 0x3F := by decide

/-- V40.4 -/
theorem test_wrDtr : (after (.wrDtr 0xFFFFFFFF) quiet).response = .okay ∧
    (after (.wrDtr 0xFFFFFFFF) quiet).chan.regWord .dtr = 0xFFFFFFFF := by decide

/-- V40.5 -/
theorem test_wrRate : (after (.wrRate 0xFFFFFFFF) quiet).response = .okay ∧
    (after (.wrRate 0xFFFFFFFF) quiet).chan.regWord .rate = 0xFFFFFFFF := by decide

/-- V40.6 -/
theorem test_wrCmpu : (after (.wrCmpu 0xFFFFFFFF) quiet).response = .okay ∧
    (after (.wrCmpu 0xFFFFFFFF) quiet).chan.regWord .cmpu = 0xFFFFFFFF := by decide

/-- V40.7 -/
theorem test_wrCmpv : (after (.wrCmpv 0x12345678) quiet).response = .okay ∧
    (after (.wrCmpv 0x12345678) quiet).chan.regWord .cmpv = 0x12345678 := by decide

/-- V40.8 -/
theorem test_wrCmpw : (after (.wrCmpw 0x80000000) quiet).response = .okay ∧
    (after (.wrCmpw 0x80000000) quiet).chan.regWord .cmpw = 0x80000000 := by decide

/-- V40.9 -/
theorem test_wrEmgcr : (after (.wrEmgcr 0xFFFFFFFF) quiet).response = .okay ∧
    (after (.wrEmgcr 0xFFFFFFFF) quiet).chan.regWord .emgcr = 0xFF := by decide

/-- V40.10 -/
theorem test_wrOvvcr : (after (.wrOvvcr 0xFFFFFF00) quiet).response = .okay ∧
    (after (.wrOvvcr 0xFFFFFF00) quiet).chan.regWord .ovvcr = 0 := by decide

/-- V40.13 -/
theorem test_wrEmgsta : (after (.wrEmgsta 0xFFFFFFFF) quiet).response = .okay ∧
    (after (.wrEmgsta 0xFFFFFFFF) quiet).chan.regWord .emgsta = 0 := by decide

/-- V40.14 -/
theorem test_wrOvvsta : (after (.wrOvvsta 0x00000001) quiet).response = .okay ∧
    (after (.wrOvvsta 0x00000001) quiet).chan.regWord .ovvsta = 0 := by decide

/-- V40.17 -/
theorem test_wrPom_locked : (after (.wrPom 0x1) running).response = .error .locked ∧
    (after (.wrPom 0x1) running).chan.regWord .pom = 2 := by decide

/-- V40.18 -/
theorem test_wrWfc_locked : (after (.wrWfc 0x0) running).response = .error .locked ∧
    (after (.wrWfc 0x0) running).chan.regWord .wfc = 0x1D5 := by decide

/-- V40.19 -/
theorem test_wrOpl_locked : (after (.wrOpl 0x0) running).response = .error .locked ∧
    (after (.wrOpl 0x0) running).chan.regWord .opl = 0x27 := by decide

/-- V40.20 -/
theorem test_wrDtr_locked : (after (.wrDtr 0x9) running).response = .error .locked ∧
    (after (.wrDtr 0x9) running).chan.regWord .dtr = 2 := by decide

/-- V40.15. -/
theorem test_wrEn_bit_zero : (after (.wrEn 0xFFFFFFFE) quiet).response = .okay ∧
    (after (.wrEn 0xFFFFFFFE) quiet).chan.mden = false := by decide

/-- V40.28: the enabling write loads the latches, the sides and the counters. -/
theorem test_wrEn_starts :
    (let c := { quiet.chan with
      dtr := 5, cmpb := ⟨0x1111, 0x2222, 0x3333⟩, side := ⟨true, true, true⟩, phase := 9 }
    let d := (after (.wrEn 1) { quiet with chan := c }).chan
    (d.phase, d.cmpa, d.side, d.cnt)) =
      (0, ⟨0x1111, 0x2222, 0x3333⟩, ⟨false, false, false⟩, ⟨5, 5, 5⟩) := by decide

/-- V41.7: the second key clears the latch and disarms the path. -/
theorem test_wrEmgrel_second_key :
    (let c := (after (.wrEmgrel 0xA5)
      { latched with chan := { latched.chan with keyst := ⟨.k1, .idle⟩ } }).chan
    (c.latch, c.pen, c.keyst)) = (⟨false, true⟩, ⟨false, true⟩, ⟨.idle, .idle⟩) := by decide

/-- V41.14: the key is compared on all 32 bits. -/
theorem test_wrEmgrel_wide_key : (let c := (after (.wrEmgrel 0x15A) latched).chan
    (c.latch, c.keyst)) = (⟨true, true⟩, ⟨.idle, .idle⟩) := by decide

/-- V41.8, on the other path: the first key again keeps the sequencer at `K1`. -/
theorem test_wrOvvrel_first_key : (let c := (after (.wrOvvrel 0x5A) keyed).chan
    (c.latch, c.keyst)) = (⟨true, true⟩, ⟨.k1, .k1⟩) := by decide

/-- V41.18, on the other path: the second key with the latch clear leaves the path armed. -/
theorem test_wrOvvrel_untripped :
    (let c := (after (.wrOvvrel 0xA5)
      { quiet with chan := { quiet.chan with keyst := ⟨.idle, .k1⟩ } }).chan
    (c.latch, c.pen, c.keyst)) = (⟨false, false⟩, ⟨true, true⟩, ⟨.idle, .idle⟩) := by decide

/-! ## Reads, after the settings of V40.17 and of the examples of R130 to R147 -/

/-- A state whose every readable field differs from its neighbours. -/
def mixed : State :=
  { running with
    chan :=
      { running.chan with
        cmpb := ⟨0x4000, 0x2000, 0x8000⟩, cmpa := ⟨1, 2, 3⟩, pen := ⟨true, false⟩, inpol := ⟨true, false⟩
        resp := ⟨1, 2⟩, filt := ⟨3, 4⟩, latch := ⟨true, false⟩, keyst := ⟨.k1, .k1⟩ } }

theorem test_rdEn : readWord (after .rdEn mixed) = some 1 := by decide

theorem test_rdPom : readWord (after .rdPom mixed) = some 2 := by decide

theorem test_rdWfc : readWord (after .rdWfc mixed) = some 0x1D5 := by decide

theorem test_rdOpl : readWord (after .rdOpl mixed) = some 0x27 := by decide

theorem test_rdDtr : readWord (after .rdDtr mixed) = some 2 := by decide

theorem test_rdRate : readWord (after .rdRate mixed) = some 0x100000 := by decide

theorem test_rdCmpu : readWord (after .rdCmpu mixed) = some 0x4000 := by decide

theorem test_rdCmpv : readWord (after .rdCmpv mixed) = some 0x2000 := by decide

theorem test_rdCmpw : readWord (after .rdCmpw mixed) = some 0x8000 := by decide

theorem test_rdEmgcr : readWord (after .rdEmgcr mixed) = some 0x37 := by decide

theorem test_rdOvvcr : readWord (after .rdOvvcr mixed) = some 0x48 := by decide

theorem test_rdEmgrel : readWord (after .rdEmgrel mixed) = some 0 := by decide

theorem test_rdOvvrel : readWord (after .rdOvvrel mixed) = some 0 := by decide

theorem test_rdEmgsta : readWord (after .rdEmgsta mixed) = some 1 := by decide

theorem test_rdOvvsta : readWord (after .rdOvvsta mixed) = some 0 := by decide

/-! ## TICK, RESET, the carrier and the dead time -/

/-- V70.2: an armed, active-low, unfiltered input at 0 latches on one sample, and both groups stay forced. -/
theorem test_tick_spurious_latch : (let c := (after (.tick false true 0) quiet).chan
    (c.latch, c.pgateU, c.pgateL)) = (⟨true, false⟩, true, true) := by decide

/-- P1 part B, tick 5: the carrier step, the raw PWM, and the dead time that the change of phase U starts. -/
theorem test_tick_dead_time : (let c := { running.chan with
      phase := 0x400000, dtr := 1, cmpb := ⟨0x4000, 0x2000, 0x8000⟩, cmpa := ⟨0x4000, 0x2000, 0x8000⟩
      pen := ⟨false, false⟩, side := ⟨true, false, true⟩, hold := ⟨0, 0, 1⟩ }
    let d := (after (.tick true true 0) { running with chan := c }).chan
    (d.phase, d.side, d.cnt, d.hold, d.pins)) =
      (0x500000, ⟨false, false, true⟩, ⟨1, 0, 0⟩, ⟨0, 0, 1⟩, ⟨false, false, true, false, true, false⟩) := by decide

/-- V70.1: the elements without an open value. -/
theorem test_reset_from_run :
    (let c := (after .reset mixed).chan
     (c.mden, c.lomd, c.pen, c.keyst) = (false, true, ⟨true, true⟩, ⟨.idle, .idle⟩) ∧
       (c.rate, c.pgateU, c.pgateL, c.pins) = (0, true, true, ⟨true, true, true, true, true, true⟩)) := by
  decide

/-- V42.2, `RATE = 0xC00000`: tick 3 has `ev_end` alone, tick 4 both events. -/
theorem test_carrier_events : (let c := { running.chan with rate := 0xC00000, phase := 0x800000 }
    (c.evCtr, c.evEnd, c.t2.phase, c.t2.evCtr, c.t2.evEnd, c.t2.t2.phase)) =
      (false, true, 0x400000, true, true, 0) := by decide

/-- V42.1. -/
theorem test_carrier_sawtooth :
    carrier 0b00 0x0001FF = 0 ∧ carrier 0b00 0x7FFFFF = 0x3FFF ∧
    carrier 0b10 0xFFFDFF = 1 ∧
    carrier 0b10 0x000000 = 0x7FFF := by decide

/-- V42.1. -/
theorem test_carrier_triangle :
    carrier 0b01 0x7FFEFF = 0x7FFE ∧ carrier 0b01 0x800100 = 0x7FFE ∧
    carrier 0b11 0x000100 = 0x7FFE ∧
    carrier 0b11 0xC00000 = 0x4000 := by decide

/-- V42.3: the duty `0xFFFFFFFF` is above every carrier value, 0 above none. -/
theorem test_duty_is_unsigned :
    below 0x7FFF 0xFFFFFFFF = true ∧ below 0x7FFF 0x8000 = true ∧
    below 0x7FFF 0x7FFF = false ∧ below 0 0 = false := by decide

/-- V41.33, V41.36, V41.39: the groups the latched paths force. -/
theorem test_response_modes : (let c := { latched.chan with resp := ⟨0b01, 0b10⟩ }
    (c.wantU, c.wantL, { c with latch := ⟨true, false⟩ }.wantL, { c with latch := ⟨false, false⟩ }.wantU)) =
      (true, true, false, false) := by decide

/-- A placed word is run by the very next step, with the gate opened for it. -/
theorem test_step_runs_placed_word : (match step (State.withFetchWord gated 48 0x51400100000) with
      | .next t => some (t.chan.rate, t.response)
      | .fault _ => none
      | .refused _ => none) = some (0x100000, .okay) := by decide

/-- R100: the rows a path is in, latched and disarmed among the tripped ones; the settings of an unconfigured
path are those of `RESET`. -/
theorem test_path_states :
    (let off : PerPath Bool := ⟨false, false⟩
     let c := { latched.chan with pen := off }
     c.inPathState .emg .tripped = true ∧ c.inPathState .emg .latchedDisarmed = true ∧
       latched.chan.inPathState .emg .tripped = true ∧
       latched.chan.inPathState .emg .latchedDisarmed = false ∧
       quiet.chan.inPathState .ovv .armed = true ∧
       { quiet.chan with pen := off }.inPathState .ovv .released = true ∧
       { quiet.chan with filt := ⟨1, 1⟩ }.inPathState .ovv .unconfigured = false) := by decide

/-- R171: the numbers of the table. -/
theorem test_error_numbers :
    (errorNumber .unmapped, errorNumber .badAccess, errorNumber .locked, Response.okay.number) =
      (1, 2, 3, some 0) := by decide

/-- R76: the last write of a release clears bit 0 alone; bit 0 of a status word says `Tripped`. -/
theorem test_disarm_and_status :
    disarmWrite .emg 0x37 = .wrEmgcr 0x36 ∧ armProtection .ovv true 0b01 3 = .wrOvvcr 0x37 ∧
      protectionStatus 1 = .tripped ∧ protectionStatus 0 = .ok := by decide

/-- The invariant is false of some channel, so that it says something. -/
theorem test_invariant_can_fail : ¬ Channel.Inv { latched.chan with pgateU := false, pgateL := false } := by
  intro h
  exact absurd (h.latchForces (by decide)) (by decide)

/-! ## Witnesses: the hypotheses of each obligation are met, clause by clause -/

/-- One of the states of a small set, before a step of each kind. -/
def asking (i : Instr) (s : State) : State := s.place (encode i)

theorem witness_StepRunsTheRequestedOperation :
    decodeRequest (nextRequest (asking .rdRate quiet)) = some .rdRate ∧ quiet.pending = [] ∧
      (asking .rdRate quiet).pending = encode .rdRate :: [] := by decide

theorem witness_EncodedInstructionDecodesToItself :
    Instr.wf (.wrCmpw 0xFFFFFFFF) = true ∧ Instr.wf (.tick true true 0b111) = true := by decide

/-- `t` has the size code, the alignment and the range of each clause, at the ends of the range. -/
theorem witness_DecodingFollowsTheTestsInOrder :
    (0x11000000005#43).extractLsb' 41 2 ≠ 0b10#2 ∧ ((0x51200000005#43).extractLsb' 32 8).toNat % 4 ≠ 0 ∧
      ((0x43C00000000#43).extractLsb' 41 2 = 0b10#2 ∧ ((0x43C00000000#43).extractLsb' 32 8).toNat = 0x3C) ∧
      ((0x43800000001#43).extractLsb' 41 2 = 0b10#2 ∧ ((0x43800000001#43).extractLsb' 32 8).toNat = 0x38) ∧
      ((0x50000000000#43).extractLsb' 41 2 = 0b10#2 ∧ ((0x50000000000#43).extractLsb' 32 8).toNat = 0) := by
  decide

theorem witness_BlockAsSoftwareFindsItAfterReset :
    mixed.gateOpen = true ∧ ∃ t, exec .reset mixed = .next t := ⟨rfl, _, rfl⟩

theorem witness_EnablingWriteStartsTheRun :
    quiet.gateOpen = true ∧ quiet.chan.mden = false ∧ (0xFFFFFFFF#32)[0] = true := by decide

theorem witness_OtherEnableWritesChangeOnlyMden :
    running.gateOpen = true ∧ running.chan.mden = true ∧ (0xFFFFFFFE#32)[0] = false ∧
      ∃ t, exec (.wrEn 0xFFFFFFFE) running = .next t := ⟨rfl, rfl, rfl, _, rfl⟩

theorem witness_LockedRegistersStoreInConfigMode :
    quiet.gateOpen = true ∧ quiet.chan.mden = false := by decide

theorem witness_LockedRegistersRejectInRunMode :
    running.gateOpen = true ∧ running.chan.mden = true := by decide

theorem witness_ConfigurationReadsReturnTheirFields :
    quiet.gateOpen = true ∧ quiet.chan.mden = false ∧ (∃ t, exec .reset quiet = .next t) ∧
      (∃ t, exec (.wrWfc 0xFFFFFFFF) quiet = .next t) ∧ ∃ t, exec (.wrOpl 0x27) quiet = .next t :=
  ⟨rfl, rfl, ⟨_, rfl⟩, ⟨_, rfl⟩, _, rfl⟩

theorem witness_RateAndDutyWritesStoreTheirWord : mixed.gateOpen = true := rfl

theorem witness_RateAndDutyReadsReturnTheBuffer :
    mixed.gateOpen = true ∧ (∃ t, exec (.wrRate 0xFFFFFFFF) mixed = .next t) ∧
      ∃ t, exec .reset mixed = .next t := ⟨rfl, ⟨_, rfl⟩, _, rfl⟩

theorem witness_ControlWritesStoreThePathSettings : mixed.gateOpen = true := rfl

theorem witness_ControlReadsReturnThePathSettings :
    keyed.gateOpen = true ∧ (∃ t, exec .reset keyed = .next t) ∧ keyed.chan.latch.emg = true ∧
      keyed.chan.keyst.emg = .k1 ∧ ∃ t, exec (.wrEmgrel 0xA5) keyed = .next t :=
  ⟨rfl, ⟨_, rfl⟩, rfl, rfl, _, rfl⟩

/-- Each branch of the sequencer is reached: the second key with the latch set (`keyed`) and clear. -/
theorem witness_KeyWritesStepTheSequencer :
    keyed.gateOpen = true ∧ keyed.chan.keyst = ⟨.k1, .k1⟩ ∧ keyed.chan.latch = ⟨true, true⟩ ∧
      quiet.gateOpen = true ∧ quiet.chan.latch = ⟨false, false⟩ := by decide

theorem witness_KeyPortReadsReturnZero :
    keyed.gateOpen = true ∧ keyed.chan.keyst.emg = .k1 ∧
      ∃ t u, exec .rdEmgrel keyed = .next t ∧ exec (.wrEmgrel 0xA5) t = .next u :=
  ⟨rfl, rfl, _, _, rfl, rfl⟩

theorem witness_StatusWritesAreIgnored :
    latched.gateOpen = true ∧ latched.chan.latch.emg = true ∧
      ∃ t, exec (.wrEmgsta 0x0) latched = .next t := ⟨rfl, rfl, _, rfl⟩

theorem witness_StatusReadsReturnTheLatch :
    latched.gateOpen = true ∧ latched.chan.latch.ovv = true := by decide

/-- An armed path with its count below and at the filter, and a path that is not active: with `e = 0` and
active-low inputs, `FILT = 1` and the counts 0 and 1. -/
theorem witness_TickRunsTheTripFilter :
    quiet.gateOpen = true ∧ (quiet.chan.pen.emg = true ∧ false = quiet.chan.inpol.emg) ∧
      ¬(true = quiet.chan.inpol.ovv) ∧ quiet.chan.filt.emg.toNat ≤ quiet.chan.fcnt.emg.toNat ∧
      (let c := { quiet.chan with filt := ⟨1, 1⟩, fcnt := ⟨0, 1⟩ }
       c.fcnt.emg.toNat < c.filt.emg.toNat ∧ c.filt.ovv.toNat ≤ c.fcnt.ovv.toNat) := by decide

theorem witness_TickAdvancesTheCarrier :
    running.gateOpen = true ∧ running.chan.mden = true ∧ quiet.gateOpen = true ∧ quiet.chan.mden = false := by
  decide

/-- `DSYNCS = 01`: one state whose tick is the centre and one whose tick is not. -/
theorem witness_TickLoadsTheDutyLatches :
    running.gateOpen = true ∧ running.chan.mden = true ∧ running.chan.dsyncs = 0b01#2 ∧
      running.chan.phase.toNat + running.chan.rate.toNat % 2 ^ 24 < 2 ^ 23 ∧
      (let c := { running.chan with phase := 0x700000 }
       c.phase.toNat < 2 ^ 23 ∧ 2 ^ 23 = c.phase.toNat + c.rate.toNat % 2 ^ 24) := by decide

/-- The clauses of the stretcher and of the inserter: correction on with the raw PWM 1, 0 with a stretch
left and 0 without; the side changing, staying with a count and staying without. -/
theorem witness_TickRunsTheDeadTimeUnit :
    quiet.gateOpen = true ∧ quiet.chan.mden = false ∧ running.gateOpen = true ∧ running.chan.mden = true ∧
      running.chan.dtcren = true ∧
      (let c := { running.chan with
          cmpa := ⟨0x8000, 0, 0⟩, hold := ⟨0, 1, 0⟩, side := ⟨true, false, false⟩, cnt := ⟨2, 0, 0⟩ }
       let d := c.tick true true 0
       (carrier (c.car.get .u) d.phase).toNat < d.cmpa.u.toNat ∧
          ¬(carrier (c.car.get .v) d.phase).toNat < d.cmpa.v.toNat ∧ c.hold.v ≠ 0 ∧ c.hold.w = 0 ∧
          d.side.u = c.side.u ∧ c.cnt.u ≠ 0 ∧ d.side.v ≠ c.side.v ∧ d.side.w = c.side.w ∧ c.cnt.w = 0) ∧
      (let c := { running.chan with dtcren := false }
       c.mden = true ∧ c.dtcren = false) := by decide

theorem witness_TickUpdatesTheProtectionBuffer : running.gateOpen = true := rfl

theorem witness_TickLeavesTheConfigurationAlone :
    latched.gateOpen = true ∧ latched.chan.latch.get .ovv = true := by decide

theorem witness_TripsDoNotDisturbTheRun :
    ∃ t u, exec (.tick false true 0) running = .next t ∧ exec (.tick true false 0b111) running = .next u :=
  ⟨_, _, rfl, rfl⟩

theorem witness_CarrierEndsCountThePeriods : running.chan.mden = true := rfl

/-- `n = 16` and the smallest `n`, 2. -/
theorem witness_CarrierEventsFallWhereStated :
    running.chan.mden = true ∧ running.chan.phase = 0 ∧ 16 % 2 = 0 ∧
      running.chan.rate.toNat % 2 ^ 24 * 16 = 2 ^ 24 ∧
      (let c := { running.chan with rate := 0x800000 }
       c.rate.toNat % 2 ^ 24 * 2 = 2 ^ 24) := by decide

theorem witness_NoShootThrough : running.chan.upmd ≠ running.chan.lomd := by decide

/-- With `DTR = 2`: from the complementary side, three ticks with the duty at 100 % reach the plain side,
exactly `DTR + 1`; and back with the duty at 0. -/
theorem witness_DeadTimeSeparatesTheCommands :
    (let idle : TickLevels := ⟨true, true, 0⟩
     let c := { running.chan with dtcren := false, dsyncs := 2, cmpa := ⟨0x8000, 0x8000, 0x8000⟩ }
     let d := { c with cmpa := ⟨0, 0, 0⟩, side := ⟨true, true, true⟩ }
     (c.mden = true ∧ c.compOn .u = true ∧ (c.ticks [idle, idle, idle]).plainOn .u = true) ∧
       (d.mden = true ∧ d.plainOn .u = true ∧ (d.ticks [idle, idle, idle]).compOn .u = true)) := by decide

/-- The longest run the statement speaks of, `DTR - 1` ticks with `DTR = 2`. -/
theorem witness_EnableWaitsAFullDeadTime :
    (let s := { quiet with chan := { quiet.chan with dtr := 2 } }
     s.gateOpen = true ∧ s.chan.mden = false ∧ (1#32)[0] = true ∧ [(⟨true, true, 0⟩ : TickLevels)].length <
       s.chan.dtr.toNat) ∧
    ∃ t, exec (.wrEn 1) { quiet with chan := { quiet.chan with dtr := 2 } } = .next t :=
  ⟨by decide, _, rfl⟩

/-- The filter at its largest, `FILT = 15`. -/
theorem witness_FilterLatchesAfterItsCount :
    (let c := { quiet.chan with filt := ⟨15, 15⟩ }
     let active : TickLevels := ⟨false, true, 0⟩
     c.pen.get .emg = true ∧ c.fcnt.get .emg = 0 ∧ c.latch.get .emg = false ∧
       ∀ l ∈ [active, active], tripLevel l.emgIn l.ovvIn .emg = c.inpol.get .emg) := by decide

/-- A channel in RUN mode with a set latch meets the invariant, and its machine makes a step. -/
theorem witness_EveryStepKeepsTheInvariant :
    (asking (.tick true true 0) keyed).chan.Inv ∧
      ∃ t, step (asking (.tick true true 0) keyed) = .next t :=
  ⟨⟨fun _ => rfl, fun _ x => by cases x <;> decide, fun _ _ x => by cases x <;> rfl⟩, _, rfl⟩

/-- The clause of the release. The clause of the reset needs `LATCH_RST = 0`, which is open. -/
theorem witness_LatchIsClearedOnlyByReleaseOrReset :
    ∃ t, step (asking (.wrEmgrel 0xA5) keyed) = .next t ∧
      (asking (.wrEmgrel 0xA5) keyed).chan.latch.get .emg = true ∧ t.chan.latch.get .emg = false :=
  ⟨_, rfl, rfl, rfl⟩

/-- The clause of the trip. The clause of the reset needs `LATCH_RST = 1`, which is open. -/
theorem witness_LatchIsSetOnlyByATripOrReset :
    ∃ t, step (asking (.tick false true 0) quiet) = .next t ∧
      (asking (.tick false true 0) quiet).chan.latch.get .emg = false ∧ t.chan.latch.get .emg = true :=
  ⟨_, rfl, rfl, by decide⟩

/-- The first key twice and then another word, with a clock edge between: no release sequence. -/
theorem witness_LatchPersistsWithoutTheKeys :
    let rs := [encode (.wrEmgrel 0x5A), encode (.wrEmgrel 0x5A), encode (.tick true true 0),
      encode (.wrEmgrel 0x1A5)]
    latched.gateOpen = true ∧ latched.chan.latch.get .emg = true ∧ latched.chan.keyst.get .emg = .idle ∧
      (∀ r ∈ rs, r ≠ .reset ∧ ∀ b, r ≠ .clkGate b) ∧
      ¬([Config.key1, Config.key2] <:+: keysWritten .emg rs) ∧ ∃ t, serveAll rs latched = .next t :=
  ⟨rfl, rfl, rfl, by decide, by decide, _, rfl⟩

/-- A wait with a clock edge, a read of the REL register and a key on the other path. -/
theorem witness_TwoKeysReleaseThroughAnyWait :
    let wait := [encode (.tick true true 0), encode .rdEmgrel, encode (.wrOvvrel 0x5A)]
    latched.gateOpen = true ∧ (∀ r ∈ wait, r ≠ .reset ∧ ∀ b, r ≠ .clkGate b) ∧
      keysWritten .emg wait = [] ∧ latched.chan.latch.get .emg = true := by decide

theorem witness_ModeChangesOnlyByEnableOrReset :
    ∃ t, step (asking (.wrEn 0) running) = .next t ∧ t.chan.mden ≠ (asking (.wrEn 0) running).chan.mden :=
  ⟨_, rfl, by decide⟩

theorem witness_RunModeLocksTheConfiguration :
    ∃ t, step (asking (.wrWfc 0) running) = .next t ∧ (asking (.wrWfc 0) running).chan.mden = true ∧
      t.chan.mden = true := ⟨_, rfl, rfl, rfl⟩

theorem witness_SequencerMovesOnlyByItsRegister :
    ∃ t, step (asking (.wrOvvrel 0x5A) quiet) = .next t ∧
      t.chan.keyst.get .ovv ≠ (asking (.wrOvvrel 0x5A) quiet).chan.keyst.get .ovv := ⟨_, rfl, by decide⟩

/-- Two states that agree on EMG alone. -/
theorem witness_PathsDoNotInteract :
    (let s := asking (.tick false false 0) quiet
     let t := asking (.tick false false 0)
        { running with chan := { running.chan with pen := ⟨true, false⟩, latch := ⟨false, true⟩ } }
     SamePath .emg s.chan t.chan ∧ s.gateOpen = t.gateOpen ∧ s.pending = t.pending ∧ s.draws = t.draws ∧
       ∃ s' t', step s = .next s' ∧ step t = .next t') :=
  ⟨⟨rfl, rfl, rfl, rfl, rfl, rfl, rfl⟩, rfl, rfl, rfl, _, _, rfl, rfl⟩

/-- Two states in CONFIG mode that differ in all of the run state, before the write that starts a run. -/
theorem witness_RunStateIsUnobservableInConfigMode :
    (let s := asking (.wrEn 1) quiet
     let t := asking (.wrEn 1)
        { quiet with
          chan :=
            { quiet.chan with
              phase := 5, cmpa := ⟨1, 2, 3⟩, hold := ⟨1, 1, 1⟩, side := ⟨true, true, true⟩
              cnt := ⟨4, 4, 4⟩ } }
     s.chan.mden = false ∧ SameButRunState s.chan t.chan ∧ s.gateOpen = t.gateOpen ∧
       s.pending = t.pending ∧ s.draws = t.draws ∧ ∃ s' t', step s = .next s' ∧ step t = .next t') :=
  ⟨rfl, rfl, rfl, rfl, rfl, _, _, rfl, rfl⟩

/-- Each clause: the response mode `01` does not name the lower group, `10` not the upper one. -/
theorem witness_LatchedPathForcesItsGroupsOff :
    (let s := { latched with chan := { latched.chan with resp := ⟨0b01, 0b10⟩ } }
     s.gateOpen = true ∧ ∃ t, exec (.tick true true 0) s = .next t ∧ t.chan.latch.get .emg = true ∧
       t.chan.resp.get .emg ≠ 0b10#2 ∧ t.chan.latch.get .ovv = true ∧ t.chan.resp.get .ovv ≠ 0b01#2) :=
  ⟨rfl, _, rfl, by decide, by decide, by decide, by decide⟩

theorem witness_ReadsHaveNoSideEffect : mixed.gateOpen = true := rfl

/-- A locked register in CONFIG mode, and a register that is not locked in RUN mode. -/
theorem witness_ReadBackIsMasked :
    (quiet.gateOpen = true ∧ Reg.wfc ∉ [Reg.emgrel, Reg.ovvrel, Reg.emgsta, Reg.ovvsta] ∧
      (Reg.wfc ∈ [Reg.pom, Reg.wfc, Reg.opl, Reg.dtr] → quiet.chan.mden = false)) ∧
    (running.gateOpen = true ∧ Reg.emgcr ∉ [Reg.emgrel, Reg.ovvrel, Reg.emgsta, Reg.ovvsta] ∧
      (Reg.emgcr ∈ [Reg.pom, Reg.wfc, Reg.opl, Reg.dtr] → running.chan.mden = false)) := by decide

theorem witness_RepeatedWriteIsIdempotent :
    Reg.en ≠ .emgrel ∧ Reg.en ≠ .ovvrel ∧ ∃ t, exec (Reg.en.writeInstr 1) quiet = .next t :=
  ⟨by decide, by decide, _, rfl⟩

/-- V60.1, V60.3 and the first unmapped offset `0x3C`, each placed as the next request. -/
theorem witness_IllegalOperationsRaiseTheirError :
    ((quiet.place (.bus 0x11000000005)).pending = .bus 0x11000000005 :: [] ∧
      (0x11000000005#43).extractLsb' 41 2 ≠ 0b10#2) ∧
    (quiet.gateOpen = true ∧ ((0x51200000005#43).extractLsb' 32 8).toNat % 4 ≠ 0) ∧
    ((0x43C00000000#43).extractLsb' 41 2 = 0b10#2 ∧ ((0x43C00000000#43).extractLsb' 32 8).toNat % 4 = 0 ∧
      0x38 < ((0x43C00000000#43).extractLsb' 32 8).toNat) := by decide

theorem witness_ClosedClockGateHidesTheBlock :
    gated.gateOpen = false ∧ (0x50000000001#43)[40] = true ∧ (0x40000000000#43)[40] = false := by decide

/-- Each cause at a boundary, and a write that all but the mode lets through: `LOCKED` in RUN mode at the first
and the last locked offset, no error at the offset after it. -/
theorem witness_ErrorResponsesCarryTheirNumber :
    running.gateOpen = true ∧ running.chan.mden = true ∧
      (0x50400000000#43)[40] = true ∧ ((0x50400000000#43).extractLsb' 32 8).toNat = 0x04 ∧
      ((0x51000000005#43).extractLsb' 32 8).toNat = 0x10 ∧ ((0x51400000000#43).extractLsb' 32 8).toNat = 0x14 ∧
      ((0x43C00000000#43).extractLsb' 32 8).toNat = 0x3C := by decide

/-- An armed path whose next sample trips it, an armed and a tripped path before a control write, a tripped
path before its second key. -/
theorem witness_PathStatesAreEnteredAsTabled :
    quiet.gateOpen = true ∧ quiet.chan.inPathState .emg .armed = true ∧
      tripLevel false true .emg = quiet.chan.inpol.get .emg ∧
      (quiet.chan.filt.get .emg).toNat ≤ (quiet.chan.fcnt.get .emg).toNat ∧
      quiet.chan.inPathState .emg .tripped = false ∧ (1#32)[0] = true ∧ (0#32)[0] = false ∧
      keyed.gateOpen = true ∧ keyed.chan.inPathState .emg .tripped = true ∧ keyed.chan.keyst.get .emg = .k1 := by
  decide

theorem witness_ProtectionStatusTellsWhetherThePathTripped : latched.gateOpen = true := rfl

theorem witness_ReleaseProtectionLeavesThePathReleased :
    latched.gateOpen = true ∧ ∀ r ∈ [Request.tick false false 0b111], ∃ e o y, r = .tick e o y :=
  ⟨rfl, fun _ h => ⟨_, _, _, List.mem_singleton.mp h⟩⟩

/-- From a closed gate with both paths latched, with an active sample between the keys of each path. -/
theorem witness_InitialisationEndsReleasedAndDisabled :
    WaveformPrecondition gated ∧
      ∀ r ∈ [Request.tick false false 0] ++ [Request.tick false false 0], ∃ e o y, r = .tick e o y :=
  ⟨rfl, fun _ h => ⟨false, false, 0, by simpa using h⟩⟩

end Sys2Proof.Tests
end

section
/-! ## Taking a request, and the step it makes (R3, R4) -/

namespace Sys2Proof.Machine

/-- With nothing pending the agents choose freely (notes/assumptions/3.md). -/
theorem nextRequest_of_pending_nil {s : State} (h : s.pending = []) :
    nextRequest s = Config.environment s.draws := by simp [nextRequest, h]

/-- The free choice uses up one draw; the block is untouched (notes/assumptions/3.md). -/
theorem takeRequest_of_pending_nil {s : State} (h : s.pending = []) :
    takeRequest s = { s with draws := s.draws + 1 } := by simp [takeRequest, h]

/-- A step is the operation its next request decodes to, wherever that request came from (R4). -/
theorem step_of_decodeRequest {s : State} {i : Instr} (h : decodeRequest (nextRequest s) = some i) :
    step s = exec i (takeRequest s) :=
  (step_eq s).trans (serve_decoded h (takeRequest s))

/-- Settles O1: the decoded request is run by `serve_decoded`; where the request comes from is a case split on
the queue. -/
theorem stepRunsTheRequestedOperation : Obligations.StepRunsTheRequestedOperation := by
  intro s
  refine ⟨fun i hdecoded => ?decoded, fun hnil => ?free, fun r rest hcons => ?placed⟩
  case decoded => exact step_of_decodeRequest hdecoded
  case free => exact ⟨nextRequest_of_pending_nil hnil, takeRequest_of_pending_nil hnil⟩
  case placed => exact ⟨nextRequest_pending hcons, takeRequest_pending hcons⟩

end Sys2Proof.Machine
end

section
/-! ## The steps that carry no word: `RESET` (R190) and a clock edge with the gate open (R150) -/

namespace Sys2Proof.Machine

theorem exec_reset (s : State) : exec .reset s = .next (s.quietly (Channel.reset Config.latchRst)) := rfl

theorem exec_tick_open {s : State} (e o : Bool) (y : SyncLevels) (h : s.gateOpen = true) :
    exec (.tick e o y) s = .next (s.quietly (s.chan.tick e o y)) := by
  simp [exec, execTick, h]

@[simp] theorem reset_mden (f : Path → Bool) : (Channel.reset f).mden = false := rfl

@[simp] theorem reset_pgateU (f : Path → Bool) : (Channel.reset f).pgateU = true := rfl

@[simp] theorem reset_latch_get (f : Path → Bool) (p : Path) : (Channel.reset f).latch.get p = f p := by
  cases p <;> rfl

/-- No clock edge clears a latch (R107). -/
theorem tick_latch_get_of_set {c : Channel} {p : Path} (e o : Bool) (y : SyncLevels)
    (h : c.latch.get p = true) : (c.tick e o y).latch.get p = true := by
  rw [tick_latch, t1_latch_get, h, filterLatch_of_set]

/-- In RUN mode the accumulator after a clock edge is the carrier sum, reduced (R133). -/
theorem tick_phase_toNat_run {c : Channel} (e o : Bool) (y : SyncLevels) (h : c.mden = true) :
    (c.tick e o y).phase.toNat = c.carrierSum % 2 ^ 24 := by
  rw [tick_phase_run c e o y h, ← t2_phase_toNat]; rfl

/-- The part of `RATE` that reaches the accumulator, as a number (R133). -/
theorem rateStep_toNat (c : Channel) : c.rateStep.toNat = c.rate.toNat % 2 ^ 24 := by
  simp [Channel.rateStep]

end Sys2Proof.Machine
end

section
/-! ## What an accepted register write does to the mode, the latches and the key sequencers -/

namespace Sys2Proof.Machine

@[simp] theorem storeEn_mden (c : Channel) (d : Word) : (c.storeEn d).mden = d[0] := rfl

@[simp] theorem storeEn_latch (c : Channel) (d : Word) : (c.storeEn d).latch = c.latch := by
  obtain ⟨-, -, h⟩ | ⟨-, h⟩ := storeEn_cases c d <;> simp [h]

@[simp] theorem storeEn_keyst (c : Channel) (d : Word) : (c.storeEn d).keyst = c.keyst := by
  obtain ⟨-, -, h⟩ | ⟨-, h⟩ := storeEn_cases c d <;> simp [h]

@[simp] theorem keyStep_mden (c : Channel) (p : Path) (v : Word) : (c.keyStep p v).mden = c.mden := by
  obtain ⟨-, h⟩ | ⟨-, -, -, h⟩ | ⟨-, -, -, h⟩ | ⟨-, -, h⟩ := keyStep_cases c p v <;> simp [h]

/-- A key written to one path's REL register leaves every element of the other path alone (R100, R112). -/
theorem samePath_keyStep_of_ne (c : Channel) {p q : Path} (v : Word) (h : p ≠ q) :
    SamePath p c (c.keyStep q v) := by
  obtain ⟨-, hk⟩ | ⟨-, -, -, hk⟩ | ⟨-, -, -, hk⟩ | ⟨-, -, hk⟩ := keyStep_cases c q v <;> rw [hk] <;>
    constructor <;> simp [PerPath.get_set_ne _ _ h]

theorem keyStep_latch_keyst_of_ne (c : Channel) {p q : Path} (v : Word) (h : p ≠ q) :
    (c.keyStep q v).latch.get p = c.latch.get p ∧ (c.keyStep q v).keyst.get p = c.keyst.get p :=
  have same := samePath_keyStep_of_ne c v h
  ⟨same.latch.symm, same.keyst.symm⟩

/-- A key write that clears the latch is the second key at `K1`, and it disarms the path (R112, R113). -/
theorem keyStep_clears_latch {c : Channel} {p : Path} {v : Word} (hset : c.latch.get p = true)
    (hclear : (c.keyStep p v).latch.get p = false) :
    v = Config.key2 ∧ c.keyst.get p = .k1 ∧ (c.keyStep p v).pen.get p = false := by
  have latch_kept : ∀ k, c.keyStep p v ≠ c.withKey p k := by
    rintro k hk
    simp [hk, hset] at hclear
  obtain ⟨-, hk⟩ | ⟨hv, hk1, -, hk⟩ | ⟨-, -, -, hk⟩ | ⟨-, -, hk⟩ := keyStep_cases c p v
  · exact absurd hk (latch_kept _)
  · exact ⟨hv, hk1, by simp [hk]⟩
  · exact absurd hk (latch_kept _)
  · exact absurd hk (latch_kept _)

/-- The REL register of a path (R62, R76). -/
def relReg : Path → Reg
  | .emg => .emgrel
  | .ovv => .ovvrel

theorem relReg_writeInstr (p : Path) (v : Word) : (relReg p).writeInstr v = writeKey p v := by
  cases p <;> rfl

theorem written_relReg (p : Path) (v : Word) (c : Channel) : written (relReg p) v c = c.keyStep p v := by
  cases p <;> rfl

/-- A write to any other register moves neither the latch nor the key sequencer of a path (R24, R113). -/
theorem written_latch_keyst_of_ne {p : Path} {q : Reg} (v : Word) (c : Channel) (h : q ≠ relReg p) :
    (written q v c).latch.get p = c.latch.get p ∧ (written q v c).keyst.get p = c.keyst.get p := by
  cases q with
  | en => simp [written]
  | emgrel => exact keyStep_latch_keyst_of_ne c v (by rintro rfl; exact h rfl)
  | ovvrel => exact keyStep_latch_keyst_of_ne c v (by rintro rfl; exact h rfl)
  | _ => exact ⟨rfl, rfl⟩

/-- A write to any register but EN leaves the mode alone (R14, R184). -/
theorem written_mden_of_ne {q : Reg} (v : Word) (c : Channel) (h : q ≠ .en) :
    (written q v c).mden = c.mden := by
  cases q with
  | en => exact absurd rfl h
  | emgrel => exact keyStep_mden c .emg v
  | ovvrel => exact keyStep_mden c .ovv v
  | _ => rfl

end Sys2Proof.Machine
end

section
/-! ## The state chapter: what loads, moves and clears the elements (R13, R14, R22, R24, R30) -/

namespace Sys2Proof.Machine

/-- Settles O40: of the four things a step can do (`step_chan`), only the reset table and a key write reach a
set latch. -/
theorem latchIsClearedOnlyByReleaseOrReset : Obligations.LatchIsClearedOnlyByReleaseOrReset := by
  intro p s t hstep hset hclear
  obtain hsame | ⟨hreset, htable⟩ | ⟨e, o, y, -, -, htick⟩ | ⟨q, v, hdecoded, hopen, -, hwritten⟩ :=
    step_chan hstep
  · rw [hsame, hset] at hclear
    cases hclear
  · rw [htable, reset_latch_get] at hclear
    exact .inl ⟨hreset, hclear⟩
  · rw [htick, tick_latch_get_of_set e o y hset] at hclear
    cases hclear
  · rw [hwritten] at hclear ⊢
    by_cases hq : q = relReg p
    · subst hq
      rw [written_relReg] at hclear ⊢
      obtain ⟨rfl, hk1, hdisarmed⟩ := keyStep_clears_latch hset hclear
      exact .inr ⟨hopen, relReg_writeInstr p _ ▸ hdecoded, hk1, hdisarmed⟩
    · obtain ⟨hlatch, -⟩ := written_latch_keyst_of_ne v s.chan hq
      rw [hlatch, hset] at hclear
      cases hclear

/-- Settles O22: the two modes of a clock edge. -/
theorem tickAdvancesTheCarrier : Obligations.TickAdvancesTheCarrier := by
  intro e o y s hg
  refine ⟨_, exec_tick_open e o y hg, fun hrun => ?run, fun hconfig => ?config⟩
  case run =>
    rw [quietly_chan, tick_phase_toNat_run e o y hrun, Channel.carrierSum, rateStep_toNat]
  case config => exact tick_phase_config s.chan e o y hconfig

/-- Settles O44: a clock edge keeps the mode, and of the register writes only that of EN moves it. -/
theorem modeChangesOnlyByEnableOrReset : Obligations.ModeChangesOnlyByEnableOrReset := by
  intro s t hstep hmoved
  obtain hsame | ⟨hreset, -⟩ | ⟨e, o, y, -, -, htick⟩ | ⟨q, v, hdecoded, -, -, hwritten⟩ :=
    step_chan hstep
  · exact absurd (by rw [hsame]) hmoved
  · exact .inl hreset
  · exact absurd (by rw [htick, tick_mden]) hmoved
  · by_cases hq : q = .en
    · subst hq
      exact .inr ⟨v, hdecoded, by rw [hwritten]; rfl⟩
    · exact absurd (by rw [hwritten, written_mden_of_ne v s.chan hq]) hmoved

/-- Settles O46: a clock edge keeps the sequencers, and of the register writes only that of the path's REL
register moves its sequencer. -/
theorem sequencerMovesOnlyByItsRegister : Obligations.SequencerMovesOnlyByItsRegister := by
  intro p s t hstep hmoved
  obtain hsame | ⟨hreset, -⟩ | ⟨e, o, y, -, -, htick⟩ | ⟨q, v, hdecoded, -, -, hwritten⟩ :=
    step_chan hstep
  · exact absurd (by rw [hsame]) hmoved
  · exact .inl hreset
  · exact absurd (by rw [htick, tick_keyst]) hmoved
  · by_cases hq : q = relReg p
    · subst hq
      exact .inr ⟨v, relReg_writeInstr p v ▸ hdecoded⟩
    · obtain ⟨-, hkeyst⟩ := written_latch_keyst_of_ne v s.chan hq
      exact absurd (by rw [hwritten, hkeyst]) hmoved

/-- Settles O5: `RESET` leaves `Channel.reset`, which is the table element by element. -/
theorem resetLoadsTheResetTable : Obligations.ResetLoadsTheResetTable := by
  intro s
  rw [exec_reset, State.quietly, Channel.reset]

/-- In CONFIG mode the invariant says only that a set latch forces a group off. -/
theorem inv_of_config {c : Channel} (hm : c.mden = false) (hf : c.LatchForces) : c.Inv where
  latchForces := hf
  countersBounded hrun := by simp [hm] at hrun
  noStaleHold hrun := by simp [hm] at hrun

/-- The reset table meets the invariant for all four values of `LATCH_RST`: both pin groups start forced off
(R30). -/
theorem inv_reset (f : Path → Bool) : (Channel.reset f).Inv :=
  inv_of_config (reset_mden f) fun _ => by simp

/-- Settles O39: power-on loads the reset table. -/
theorem invariantHoldsAtPowerOn : Obligations.InvariantHoldsAtPowerOn :=
  inv_reset Config.latchRst

end Sys2Proof.Machine
end

section
/-! ## Register accesses with the clock gate open, and with it closed (R52, R80) -/

namespace Sys2Proof.Machine

theorem busRead_open {s : State} (f : Channel → Word) (h : s.gateOpen = true) :
    busRead f s = s.returning (f s.chan) := by simp [busRead, h]

theorem busRead_closed {s : State} (f : Channel → Word) (h : s.gateOpen = false) :
    busRead f s = s.gatedRead := by simp [busRead, h]

theorem lockedWrite_open {s : State} (f : Channel → Channel) (h : s.gateOpen = true)
    (hm : s.chan.mden = false) : lockedWrite f s = s.accepted (f s.chan) := by
  simp [lockedWrite, h, hm]

theorem lockedWrite_closed {s : State} (f : Channel → Channel) (h : s.gateOpen = false) :
    lockedWrite f s = s.lostWrite := by simp [lockedWrite, h]

/-- The four registers R81 names. -/
theorem isLocked_iff {r : Reg} : isLocked r = true ↔ r ∈ [Reg.pom, Reg.wfc, Reg.opl, Reg.dtr] := by
  cases r <;> decide

/-- A write the configuration lock lets through completes with its update (R80, R81). -/
theorem exec_writeInstr_open {r : Reg} {s : State} (v : Word) (h : s.gateOpen = true)
    (hl : isLocked r = true → s.chan.mden = false) :
    exec (r.writeInstr v) s = .next (s.accepted (written r v s.chan)) := by
  rw [exec_writeInstr]
  split
  case isTrue hlocked => rw [lockedWrite_open _ h (hl hlocked)]
  case isFalse => rw [busWrite_open _ h]

theorem exec_writeInstr_closed (r : Reg) {s : State} (v : Word) (h : s.gateOpen = false) :
    exec (r.writeInstr v) s = .next s.lostWrite := by
  rw [exec_writeInstr, lockedWrite_closed _ h, busWrite_closed _ h, ite_self]

theorem exec_readInstr_open (r : Reg) {s : State} (h : s.gateOpen = true) :
    exec r.readInstr s = .next (s.returning (s.chan.regWord r)) := by
  rw [exec_readInstr, busRead_open _ h]

theorem exec_readInstr_closed (r : Reg) {s : State} (h : s.gateOpen = false) :
    exec r.readInstr s = .next s.gatedRead := by
  rw [exec_readInstr, busRead_closed _ h]

/-- The request of a register write decodes to that write (R61, R72). -/
theorem decodeRequest_encode_writeInstr (r : Reg) (v : Word) :
    decodeRequest (encode (r.writeInstr v)) = some (r.writeInstr v) := by
  have hword : encode (r.writeInstr v) = .bus (r.busOp true v).toWord := by cases r <;> rfl
  rw [hword, decodeRequest, decode, BusOp.ofWord_toWord, decodeBus_busOp]
  rfl

/-- A word that decodes is an access to a register in the direction of its bit 40 (R61, R72). -/
theorem decode_ok_direction {w : TxWord} {i : Instr} (h : decode w = .ok i) :
    ∃ (r : Reg) (v : Word), i = if w[40] then r.writeInstr v else r.readInstr := by
  unfold decode decodeBus at h
  split at h
  · cases h
  · split at h
    · cases h
    · split at h
      · cases h
      · next r _ => exact ⟨r, _, (Except.ok.inj h).symm⟩

/-- With the gate closed all that is seen of a word is its direction: a write is lost, a read returns a free
value (R52; notes/assumptions/8.md for a word that is no operation on a register). -/
theorem serveWord_closed (w : TxWord) {s : State} (h : s.gateOpen = false) :
    serveWord w s = .next (if w[40] then s.lostWrite else s.gatedRead) := by
  cases hdecode : decode w with
  | error code =>
    rw [serveWord, hdecode]
    simp only [refuseBus, h, Bool.false_eq_true, if_false]
    rfl
  | ok i =>
    obtain ⟨r, v, rfl⟩ := decode_ok_direction hdecode
    rw [serveWord, hdecode]
    cases w[40]
    · exact exec_readInstr_closed r h
    · exact exec_writeInstr_closed r v h

/-- No clock edge reaches the block while its gate is closed (R52). -/
theorem exec_tick_closed {s : State} (e o : Bool) (y : SyncLevels) (h : s.gateOpen = false) :
    exec (.tick e o y) s = .next (s.quietly s.chan) := by
  simp [exec, execTick, h]

end Sys2Proof.Machine
end

section
/-! ## A word written is read back under the field mask (R49, R73) -/

namespace Sys2Proof.Machine

section Masked

variable {v m : Word} {n i l : Nat}

/-- Above its fields a masked word is 0. -/
theorem zero_eq_extractLsb'_masked (hm : m.extractLsb' i n = 0#n) : 0#n = (v &&& m).extractLsb' i n := by
  rw [BitVec.extractLsb'_and, hm, BitVec.and_zero]

/-- A field the mask keeps, put below the bits of the masked word that stand above it. -/
theorem append_field_masked {x : BitVec n} (hx : x = (v &&& m).extractLsb' (i + l) n)
    (hm : m.extractLsb' i l = BitVec.allOnes l) :
    x ++ v.extractLsb' i l = (v &&& m).extractLsb' i (n + l) := by
  have hfield : v.extractLsb' i l = (v &&& m).extractLsb' i l := by
    rw [BitVec.extractLsb'_and, hm, BitVec.and_allOnes]
  rw [hx, hfield, BitVec.extractLsb'_append_extractLsb'_eq_extractLsb' rfl]

theorem ofBool_getElem_eq_extractLsb' (hi : i < 32) : BitVec.ofBool v[i] = v.extractLsb' i 1 := by
  ext j hj
  obtain rfl : j = 0 := by omega
  simp [BitVec.getLsbD_eq_getElem hi]

/-- The same for a field of one bit. -/
theorem append_bit_masked {x : BitVec n} (hi : i < 32) (hx : x = (v &&& m).extractLsb' (i + 1) n)
    (hm : m.extractLsb' i 1 = BitVec.allOnes 1) :
    x ++ BitVec.ofBool v[i] = (v &&& m).extractLsb' i (n + 1) := by
  rw [ofBool_getElem_eq_extractLsb', append_field_masked hx hm]

end Masked

/-! Each word is read off from its top: the zeros above the fields, then the fields downwards. -/

theorem enWord_storeEn (c : Channel) (v : Word) : (c.storeEn v).enWord = v &&& fieldMask .en := by
  have zeros := zero_eq_extractLsb'_masked (v := v) (m := fieldMask .en) (i := 1) (n := 31) (by decide)
  have mden := append_bit_masked (i := 0) (by decide) zeros (by decide)
  exact mden.trans BitVec.extractLsb'_eq_self

theorem pomWord_storePom (c : Channel) (v : Word) : (c.storePom v).pomWord = v &&& fieldMask .pom := by
  have zeros := zero_eq_extractLsb'_masked (v := v) (m := fieldMask .pom) (i := 2) (n := 30) (by decide)
  have lomd := append_bit_masked (i := 1) (by decide) zeros (by decide)
  have upmd := append_bit_masked (i := 0) (by decide) lomd (by decide)
  exact upmd.trans BitVec.extractLsb'_eq_self

theorem wfcWord_storeWfc (c : Channel) (v : Word) : (c.storeWfc v).wfcWord = v &&& fieldMask .wfc := by
  have zeros := zero_eq_extractLsb'_masked (v := v) (m := fieldMask .wfc) (i := 10) (n := 22) (by decide)
  have dsyncs := append_field_masked (i := 8) (l := 2) zeros (by decide)
  have dtcren := append_bit_masked (i := 7) (by decide) dsyncs (by decide)
  have dtymd := append_bit_masked (i := 6) (by decide) dtcren (by decide)
  have carW := append_field_masked (i := 4) (l := 2) dtymd (by decide)
  have carV := append_field_masked (i := 2) (l := 2) carW (by decide)
  have carU := append_field_masked (i := 0) (l := 2) carV (by decide)
  exact carU.trans BitVec.extractLsb'_eq_self

theorem oplWord_storeOpl (c : Channel) (v : Word) : (c.storeOpl v).oplWord = v &&& fieldMask .opl := by
  have zeros := zero_eq_extractLsb'_masked (v := v) (m := fieldMask .opl) (i := 6) (n := 26) (by decide)
  have psyncs := append_field_masked (i := 4) (l := 2) zeros (by decide)
  have syncs := append_field_masked (i := 2) (l := 2) psyncs (by decide)
  have poll := append_bit_masked (i := 1) (by decide) syncs (by decide)
  have polh := append_bit_masked (i := 0) (by decide) poll (by decide)
  exact polh.trans BitVec.extractLsb'_eq_self

theorem crWord_storeCr (c : Channel) (p : Path) (v : Word) :
    (c.storeCr p v).crWord p = v &&& fieldMask .emgcr := by
  have zeros := zero_eq_extractLsb'_masked (v := v) (m := fieldMask .emgcr) (i := 8) (n := 24) (by decide)
  have filt := append_field_masked (i := 4) (l := 4) zeros (by decide)
  have resp := append_field_masked (i := 2) (l := 2) filt (by decide)
  have inpol := append_bit_masked (i := 1) (by decide) resp (by decide)
  have pen := append_bit_masked (i := 0) (by decide) inpol (by decide)
  cases p <;> exact pen.trans BitVec.extractLsb'_eq_self

/-- The registers whose writes store nothing: the key ports and the status registers (R19, R20). -/
abbrev storelessRegs : List Reg := [.emgrel, .ovvrel, .emgsta, .ovvsta]

/-- A stored word is read back under the register's field mask (R73). -/
theorem regWord_written {r : Reg} (v : Word) (c : Channel) (h : r ∉ storelessRegs) :
    (written r v c).regWord r = v &&& fieldMask r := by
  have full : v = v &&& 0xFFFFFFFF#32 := BitVec.and_allOnes.symm
  cases r with
  | en => exact enWord_storeEn c v
  | pom => exact pomWord_storePom c v
  | wfc => exact wfcWord_storeWfc c v
  | opl => exact oplWord_storeOpl c v
  | emgcr => exact crWord_storeCr c .emg v
  | ovvcr => exact crWord_storeCr c .ovv v
  | dtr | rate | cmpu | cmpv | cmpw => exact full
  | emgrel | ovvrel | emgsta | ovvsta => simp at h

end Sys2Proof.Machine
end

section
/-! ## A repeated write (R46) -/

namespace Sys2Proof.Machine

/-- A channel whose `MDEN` already is the bit written is left as it is. -/
theorem storeEn_of_mden_eq {c : Channel} {v : Word} (h : c.mden = v[0]) : c.storeEn v = c := by
  have hkeep : c.mden = true ∨ v[0] = false := by
    rw [h]
    exact Bool.eq_false_or_eq_true _
  rw [storeEn_keep hkeep, ← h]

/-- Storing the same word again changes nothing, in every register but the key ports (R46). -/
theorem written_written {r : Reg} (v : Word) (c : Channel) (he : r ≠ .emgrel) (ho : r ≠ .ovvrel) :
    written r v (written r v c) = written r v c := by
  cases r with
  | en => exact storeEn_of_mden_eq (storeEn_mden c v)
  | emgrel => exact absurd rfl he
  | ovvrel => exact absurd rfl ho
  | _ => rfl

theorem busWrite_busWrite {f : Channel → Channel} {s : State} (h : f (f s.chan) = f s.chan) :
    busWrite f (busWrite f s) = busWrite f s := by
  obtain ⟨hopen, hwrite⟩ | ⟨hclosed, hwrite⟩ := busWrite_cases f s
  · rw [hwrite, busWrite_open (s := s.accepted _) f hopen, accepted_chan, h]
    rfl
  · rw [hwrite, busWrite_closed (s := s.lostWrite) f hclosed]
    rfl

/-- A locked write that keeps the mode meets the lock in the same position again. -/
theorem lockedWrite_lockedWrite {f : Channel → Channel} {s : State} (h : f (f s.chan) = f s.chan)
    (hmode : (f s.chan).mden = s.chan.mden) : lockedWrite f (lockedWrite f s) = lockedWrite f s := by
  obtain ⟨hopen, hconfig, hwrite⟩ | ⟨hopen, hrun, hwrite⟩ | ⟨hclosed, hwrite⟩ := lockedWrite_cases f s
  · rw [hwrite, lockedWrite_open (s := s.accepted _) f hopen (hmode.trans hconfig), accepted_chan, h]
    rfl
  · rw [hwrite]
    simp [lockedWrite, hopen, hrun, raiseBusError]
  · rw [hwrite, lockedWrite_closed (s := s.lostWrite) f hclosed]
    rfl

end Sys2Proof.Machine
end

section
/-! ## Between the two keys (R50, R112, R122) -/

namespace Sys2Proof.Machine

/-- A property that each request of a list keeps holds when the list has been served. -/
theorem serveAll_keeps {P : State → Prop} {rs : List Request} {s t : State}
    (hkeep : ∀ r ∈ rs, ∀ s t, P s → serve r s = .next t → P t) (hs : P s)
    (h : serveAll rs s = .next t) : P t := by
  induction rs generalizing s with
  | nil =>
    rw [serveAll_nil] at h
    cases h
    exact hs
  | cons r rest ih =>
    obtain ⟨u, hserve, -⟩ := serve_next r s
    rw [serveAll_cons, hserve, andThen_next] at h
    exact ih (fun q hq => hkeep q (.tail _ hq)) (hkeep r (.head _) s u hs hserve) h

/-- A write to the path's REL register stands among the keys written. -/
theorem mem_keysWritten {p : Path} {r : Request} {v : Word} {rs : List Request} (hr : r ∈ rs)
    (h : decodeRequest r = some (writeKey p v)) : v ∈ keysWritten p rs :=
  List.mem_filterMap.mpr ⟨r, hr, by cases p <;> rw [h] <;> rfl⟩

/-- One key write with the gate open is one step of the sequencer (R111, R112). -/
theorem serve_encode_writeKey (p : Path) (v : Word) {s : State} (h : s.gateOpen = true) :
    serve (encode (writeKey p v)) s = .next (s.accepted (s.chan.keyStep p v)) := by
  have hunlocked : isLocked (relReg p) = true → s.chan.mden = false := by cases p <;> simp [relReg, isLocked]
  rw [← relReg_writeInstr, serve_decoded (decodeRequest_encode_writeInstr _ v),
    exec_writeInstr_open v h hunlocked, written_relReg]

/-- A request that is no `RESET` and no write to the path's REL register leaves the path's sequencer where it
is and clears no latch of the path (R24, R107, R113). -/
theorem serve_keyst_latch {p : Path} {r : Request} {s t : State} (hreset : r ≠ .reset)
    (hkey : ∀ v, decodeRequest r ≠ some (writeKey p v)) (h : serve r s = .next t) :
    t.chan.keyst.get p = s.chan.keyst.get p ∧
      (s.chan.latch.get p = true → t.chan.latch.get p = true) := by
  obtain hsame | ⟨rfl, -⟩ | ⟨e, o, y, -, -, htick⟩ | ⟨q, v, hdecoded, -, -, hwritten⟩ := serve_chan h
  · rw [hsame]
    exact ⟨rfl, id⟩
  · exact absurd rfl hreset
  · rw [htick, tick_keyst]
    exact ⟨rfl, tick_latch_get_of_set e o y⟩
  · have hq : q ≠ relReg p := by
      rintro rfl
      exact hkey v (relReg_writeInstr p v ▸ hdecoded)
    obtain ⟨hlatch, hkeyst⟩ := written_latch_keyst_of_ne v s.chan hq
    rw [hwritten, hlatch, hkeyst]
    exact ⟨rfl, id⟩

/-- The first key has been accepted and the second can be; `wasLatched` tells whether the path was latched when
the first was written. -/
structure AwaitsKey2 (p : Path) (wasLatched : Bool) (s : State) : Prop where
  gateOpen : s.gateOpen = true
  keyst : s.chan.keyst.get p = .k1
  latch : wasLatched = true → s.chan.latch.get p = true

theorem awaitsKey2_of_key1 (p : Path) {s : State} (h : s.gateOpen = true) :
    AwaitsKey2 p (s.chan.latch.get p) (s.accepted (s.chan.keyStep p Config.key1)) where
  gateOpen := h
  keyst := by simp [keyStep_key1]
  latch := by simp [keyStep_key1]

/-- The wait of R112: the sequencer never times out. -/
theorem awaitsKey2_serve {p : Path} {b : Bool} {r : Request} {s t : State} (hs : AwaitsKey2 p b s)
    (hreset : r ≠ .reset) (hgate : ∀ g, r ≠ .clkGate g)
    (hkey : ∀ v, decodeRequest r ≠ some (writeKey p v)) (h : serve r s = .next t) : AwaitsKey2 p b t := by
  obtain ⟨hkeyst, hlatch⟩ := serve_keyst_latch hreset hkey h
  obtain ⟨u, hu, -, hopen⟩ := serve_next r s
  obtain rfl : t = u := by
    rw [h] at hu
    cases hu
    rfl
  exact ⟨(hopen hgate).trans hs.gateOpen, hkeyst.trans hs.keyst, fun hb => hlatch (hs.latch hb)⟩

theorem awaitsKey2_serveAll {p : Path} {b : Bool} {wait : List Request} {s t : State}
    (hs : AwaitsKey2 p b s) (hwait : ∀ r ∈ wait, r ≠ .reset ∧ ∀ g, r ≠ .clkGate g)
    (hkeys : keysWritten p wait = []) (h : serveAll wait s = .next t) : AwaitsKey2 p b t := by
  refine serveAll_keeps (fun r hr u u' hu hserve => ?_) hs h
  obtain ⟨hreset, hgate⟩ := hwait r hr
  refine awaitsKey2_serve hu hreset hgate (fun v hdecoded => ?_) hserve
  have hmem := mem_keysWritten hr hdecoded
  rw [hkeys] at hmem
  cases hmem

/-- The second key completes the sequence and releases the path (R112, R113). -/
theorem keyStep_key2_released {c : Channel} {p : Path} (h : c.keyst.get p = .k1) :
    (c.keyStep p Config.key2).latch.get p = false ∧ (c.keyStep p Config.key2).keyst.get p = .idle ∧
      (c.latch.get p = true → (c.keyStep p Config.key2).pen.get p = false) := by
  rw [keyStep_key2 h]
  cases hlatch : c.latch.get p
  · rw [release_clear (by simpa using hlatch)]
    simp [hlatch]
  · rw [release_set (by simpa using hlatch)]
    simp

end Sys2Proof.Machine
end

section
/-! ## The memory chapter: ordering, read-back, idempotency and the clock gate (R44, R46, R49, R50, R52) -/

namespace Sys2Proof.Machine

/-- Settles O43: `AwaitsKey2` holds after the first key, the wait keeps it, and from it the second key
releases. -/
theorem twoKeysReleaseThroughAnyWait : Obligations.TwoKeysReleaseThroughAnyWait := by
  intro p wait s hopen hwait hkeys
  have hfirst := awaitsKey2_of_key1 p hopen
  obtain ⟨t, ht⟩ := serveAll_next wait (s.accepted (s.chan.keyStep p Config.key1))
  have hawaits := awaitsKey2_serveAll hfirst hwait hkeys ht
  obtain ⟨hlatch, hidle, hpen⟩ := keyStep_key2_released hawaits.keyst
  refine ⟨t.accepted (t.chan.keyStep p Config.key2), ?_, hlatch, hidle, fun h => hpen (hawaits.latch h)⟩
  rw [releaseKeys, List.cons_append, serveAll_cons, serve_encode_writeKey p _ hopen, andThen_next,
    serveAll_append, ht, andThen_next, serveAll_cons, serve_encode_writeKey p _ hawaits.gateOpen,
    andThen_next, serveAll_nil]

/-- Settles O51: the write is accepted, and the read that follows returns the stored fields
(`regWord_written`). -/
theorem readBackIsMasked : Obligations.ReadBackIsMasked := by
  intro r v s hopen hstores hconfig
  refine ⟨_, exec_writeInstr_open v hopen fun hl => hconfig (isLocked_iff.mp hl), rfl, ?_⟩
  rw [exec_readInstr_open (s := s.accepted _) r hopen, accepted_chan, regWord_written v s.chan hstores]
  rfl

/-- Settles O52: storing the word again changes nothing (`written_written`), and a write that was lost or
refused is lost or refused again. -/
theorem repeatedWriteIsIdempotent : Obligations.RepeatedWriteIsIdempotent := by
  intro r v s t he ho h
  have hagain := written_written v s.chan he ho
  rw [exec_writeInstr] at h ⊢
  cases h
  split
  case isTrue hlocked =>
    have hmode : (written r v s.chan).mden = s.chan.mden :=
      written_mden_of_ne v s.chan (by rintro rfl; cases hlocked)
    rw [lockedWrite_lockedWrite hagain hmode]
  case isFalse => rw [busWrite_busWrite hagain]

/-- Settles O50: a read only returns the register's word. -/
theorem readsHaveNoSideEffect : Obligations.ReadsHaveNoSideEffect := by
  intro r s hopen
  exact ⟨s.chan.regWord r, exec_readInstr_open r hopen⟩

/-- Settles O55: a bus word is a lost write or a gated read by its direction (`serveWord_closed`). -/
theorem closedClockGateHidesTheBlock : Obligations.ClosedClockGateHidesTheBlock := by
  intro s hclosed
  refine ⟨fun w => ⟨_, serveWord_closed w hclosed, ?_⟩, fun e o y => exec_tick_closed e o y hclosed⟩
  cases w[40]
  · simp [hclosed]
  · simp [hclosed]

end Sys2Proof.Machine
end

section
/-! ## The transaction word and its encoding (R60 to R62, R72, R74) -/

namespace Sys2Proof.Machine

/-- Every step is a register write, a register read, a clock edge or a reset (R72). -/
theorem instr_cases (i : Instr) : (∃ r v, i = Reg.writeInstr r v) ∨ (∃ r, i = Reg.readInstr r) ∨
    (∃ e o y, i = .tick e o y) ∨ i = .reset := by
  cases i with
  | wrEn v => exact .inl ⟨.en, v, rfl⟩
  | wrPom v => exact .inl ⟨.pom, v, rfl⟩
  | wrWfc v => exact .inl ⟨.wfc, v, rfl⟩
  | wrOpl v => exact .inl ⟨.opl, v, rfl⟩
  | wrDtr v => exact .inl ⟨.dtr, v, rfl⟩
  | wrRate v => exact .inl ⟨.rate, v, rfl⟩
  | wrCmpu v => exact .inl ⟨.cmpu, v, rfl⟩
  | wrCmpv v => exact .inl ⟨.cmpv, v, rfl⟩
  | wrCmpw v => exact .inl ⟨.cmpw, v, rfl⟩
  | wrEmgcr v => exact .inl ⟨.emgcr, v, rfl⟩
  | wrOvvcr v => exact .inl ⟨.ovvcr, v, rfl⟩
  | wrEmgrel v => exact .inl ⟨.emgrel, v, rfl⟩
  | wrOvvrel v => exact .inl ⟨.ovvrel, v, rfl⟩
  | wrEmgsta v => exact .inl ⟨.emgsta, v, rfl⟩
  | wrOvvsta v => exact .inl ⟨.ovvsta, v, rfl⟩
  | rdEn => exact .inr (.inl ⟨.en, rfl⟩)
  | rdPom => exact .inr (.inl ⟨.pom, rfl⟩)
  | rdWfc => exact .inr (.inl ⟨.wfc, rfl⟩)
  | rdOpl => exact .inr (.inl ⟨.opl, rfl⟩)
  | rdDtr => exact .inr (.inl ⟨.dtr, rfl⟩)
  | rdRate => exact .inr (.inl ⟨.rate, rfl⟩)
  | rdCmpu => exact .inr (.inl ⟨.cmpu, rfl⟩)
  | rdCmpv => exact .inr (.inl ⟨.cmpv, rfl⟩)
  | rdCmpw => exact .inr (.inl ⟨.cmpw, rfl⟩)
  | rdEmgcr => exact .inr (.inl ⟨.emgcr, rfl⟩)
  | rdOvvcr => exact .inr (.inl ⟨.ovvcr, rfl⟩)
  | rdEmgrel => exact .inr (.inl ⟨.emgrel, rfl⟩)
  | rdOvvrel => exact .inr (.inl ⟨.ovvrel, rfl⟩)
  | rdEmgsta => exact .inr (.inl ⟨.emgsta, rfl⟩)
  | rdOvvsta => exact .inr (.inl ⟨.ovvsta, rfl⟩)
  | tick e o y => exact .inr (.inr (.inl ⟨e, o, y, rfl⟩))
  | reset => exact .inr (.inr (.inr rfl))

theorem encodeWord_writeInstr (r : Reg) (v : Word) :
    encodeWord (r.writeInstr v) = some (r.busOp true v).toWord := by cases r <;> rfl

theorem encodeWord_readInstr (r : Reg) :
    encodeWord r.readInstr = some (r.busOp false 0).toWord := by cases r <;> rfl

/-- The request of a register read decodes to that read (R61, R72). -/
theorem decodeRequest_encode_readInstr (r : Reg) :
    decodeRequest (encode r.readInstr) = some r.readInstr := by
  have hword : encode r.readInstr = .bus (r.busOp false 0).toWord := by cases r <;> rfl
  rw [hword, decodeRequest, decode, BusOp.ofWord_toWord, decodeBus_busOp]
  rfl

/-- Settles O3: the word of an access gives back its four fields (`BusOp.ofWord_toWord`), and each register is
found at its offset; a clock edge and a reset carry their operands in the request. -/
theorem encodedInstructionDecodesToItself : Obligations.EncodedInstructionDecodesToItself := by
  intro i _
  obtain ⟨r, v, rfl⟩ | ⟨r, rfl⟩ | ⟨e, o, y, rfl⟩ | rfl := instr_cases i
  · exact decodeRequest_encode_writeInstr r v
  · exact decodeRequest_encode_readInstr r
  · rfl
  · rfl

theorem ofBool_getElem_txWord (t : TxWord) : BitVec.ofBool t[40] = t.extractLsb' 40 1 := by
  ext j hj
  obtain rfl : j = 0 := by omega
  simp [BitVec.getLsbD_eq_getElem]

/-- A word is put together again from its four fields (R61). -/
theorem toWord_ofWord (t : TxWord) : (BusOp.ofWord t).toWord = t := by
  have direction : t.extractLsb' 41 2 ++ BitVec.ofBool t[40] = t.extractLsb' 40 3 := by
    rw [ofBool_getElem_txWord]
    exact BitVec.extractLsb'_append_extractLsb'_eq_extractLsb' rfl
  have offset : t.extractLsb' 40 3 ++ t.extractLsb' 32 8 = t.extractLsb' 32 11 :=
    BitVec.extractLsb'_append_extractLsb'_eq_extractLsb' rfl
  have data : t.extractLsb' 32 11 ++ t.extractLsb' 0 32 = t :=
    BitVec.extractLsb'_append_extractLsb'
  rw [BusOp.toWord, BusOp.ofWord, direction, offset, data]

/-- The mask of R61 keeps size, direction and offset, and zeroes the data. -/
theorem ofWord_header (t : TxWord) :
    BusOp.ofWord (t &&& 0x7FF00000000) = { BusOp.ofWord t with data := 0 } := by
  have field : ∀ i n, BitVec.extractLsb' i n (0x7FF00000000 : TxWord) = BitVec.allOnes n →
      (t &&& 0x7FF00000000).extractLsb' i n = t.extractLsb' i n := fun i n hm => by
    rw [BitVec.extractLsb'_and, hm, BitVec.and_allOnes]
  have sz := field 41 2 (by decide)
  have off := field 32 8 (by decide)
  have we : (t &&& 0x7FF00000000)[40] = t[40] := by simp
  have data : (t &&& 0x7FF00000000).extractLsb' 0 32 = 0#32 := by
    have hm : BitVec.extractLsb' 0 32 (0x7FF00000000 : TxWord) = 0#32 := by decide
    rw [BitVec.extractLsb'_and, hm, BitVec.and_zero]
  simp only [BusOp.ofWord, sz, we, off, data]
  rfl

theorem aligned_iff (off : Offset) : off.extractLsb' 0 2 = 0#2 ↔ off.toNat % 4 = 0 := by
  simp [← BitVec.toNat_inj]

/-- R72 step 1. -/
theorem decode_badAccess {t : TxWord}
    (h : (BusOp.ofWord t).sz ≠ 0b10#2 ∨ (BusOp.ofWord t).off.toNat % 4 ≠ 0) :
    decode t = .error .badAccess := by
  rw [decode, decodeBus, if_pos (h.imp_right (mt (aligned_iff _).mp))]

/-- R72 step 2. -/
theorem decode_unmapped {t : TxWord} (hsz : (BusOp.ofWord t).sz = 0b10#2)
    (halign : (BusOp.ofWord t).off.toNat % 4 = 0) (hoff : 0x38 < (BusOp.ofWord t).off.toNat) :
    decode t = .error .unmapped := by
  have hunmapped : 0x38#8 < (BusOp.ofWord t).off := BitVec.lt_def.mpr (by simpa using hoff)
  rw [decode, decodeBus, if_neg (by simp [hsz, aligned_iff, halign]), if_pos hunmapped]

/-- A word the first two tests of R72 let through is the word access to a register. -/
theorem ofWord_eq_busOp {t : TxWord} (hsz : (BusOp.ofWord t).sz = 0b10#2)
    (halign : (BusOp.ofWord t).off.toNat % 4 = 0) (hoff : (BusOp.ofWord t).off.toNat ≤ 0x38) :
    ∃ r : Reg, BusOp.ofWord t = r.busOp (BusOp.ofWord t).we (BusOp.ofWord t).data := by
  have hmapped : ¬ 0x38#8 < (BusOp.ofWord t).off := fun h => absurd (BitVec.lt_def.mp h) (by simpa using hoff)
  obtain ⟨r, hr⟩ := Reg.ofOffset_mapped _ ((aligned_iff _).mpr halign) hmapped
  refine ⟨r, ?_⟩
  rw [Reg.busOp, Reg.offset_of_ofOffset hr]
  cases hop : BusOp.ofWord t
  simp_all

/-- Settles O4: the two refusals are the tests of R72 in order; a word that passes both is the access of its
own direction to a register, and is put together again from its fields. -/
theorem decodingFollowsTheTestsInOrder : Obligations.DecodingFollowsTheTestsInOrder := by
  intro t sz off
  refine ⟨decode_badAccess, decode_unmapped, fun hsz halign hoff => ?_⟩
  obtain ⟨r, hop⟩ := ofWord_eq_busOp hsz halign hoff
  refine ⟨_, by rw [decode, hop, decodeBus_busOp], ?_⟩
  have hdirection : (BusOp.ofWord t).we = t[40] := rfl
  rw [hdirection] at hop ⊢
  cases hwe : t[40]
  case true =>
    rw [hwe] at hop
    simp only [if_true]
    rw [encodeWord_writeInstr, ← hop, toWord_ofWord]
  case false =>
    have hread : r.busOp false 0 = BusOp.ofWord (t &&& 0x7FF00000000) := by
      rw [ofWord_header, hop, hwe]
      rfl
    simp only [Bool.false_eq_true, if_false]
    rw [encodeWord_readInstr, hread, toWord_ofWord]

/-- Settles O2: six words are accesses written out field by field (`decode_append`); the others fail a test of
R72. -/
theorem transactionWordsDecode : Obligations.TransactionWordsDecode :=
  ⟨decode_append .en true 0x1, decode_append .wfc true 0x1D5, decode_append .rate false 0,
    decode_append .cmpv true 0x2000, decode_append .ovvrel true 0xA5, decode_append .emgsta false 0,
    decode_badAccess (.inl (by decide)), decode_badAccess (.inr (by decide)),
    decode_badAccess (.inl (by decide)), decode_unmapped (by decide) (by decide) (by decide)⟩

end Sys2Proof.Machine
end

section
/-! ## The calls of the software interface: reading the status, releasing a path, initialising (R76) -/

namespace Sys2Proof.Machine

/-- A register write the lock lets through, made as a request with the gate open (R72, R80). -/
theorem serve_encode_writeInstr_open {r : Reg} {s : State} (v : Word) (h : s.gateOpen = true)
    (hl : isLocked r = true → s.chan.mden = false) :
    serve (encode (r.writeInstr v)) s = .next (s.accepted (written r v s.chan)) :=
  (serve_decoded (decodeRequest_encode_writeInstr r v) s).trans (exec_writeInstr_open v h hl)

/-- A register read, made as a request with the gate open (R72, R80). -/
theorem serve_encode_readInstr_open (r : Reg) {s : State} (h : s.gateOpen = true) :
    serve (encode r.readInstr) s = .next (s.returning (s.chan.regWord r)) :=
  (serve_decoded (decodeRequest_encode_readInstr r) s).trans (exec_readInstr_open r h)

/-- The status register of a path (R62). -/
def staReg : Path → Reg
  | .emg => .emgsta
  | .ovv => .ovvsta

/-- The control register of a path (R62). -/
def crReg : Path → Reg
  | .emg => .emgcr
  | .ovv => .ovvcr

theorem staReg_readInstr (p : Path) : (staReg p).readInstr = getProtectionStatus p := by cases p <;> rfl

theorem regWord_staReg (p : Path) (c : Channel) : c.regWord (staReg p) = c.staWord p := by cases p <;> rfl

theorem crReg_readInstr (p : Path) : (crReg p).readInstr = readControl p := by cases p <;> rfl

theorem crReg_writeInstr (p : Path) (v : Word) : (crReg p).writeInstr v = writeControl p v := by
  cases p <;> rfl

theorem regWord_crReg (p : Path) (c : Channel) : c.regWord (crReg p) = c.crWord p := by cases p <;> rfl

theorem written_crReg (p : Path) (v : Word) (c : Channel) : written (crReg p) v c = c.storeCr p v := by
  cases p <;> rfl

/-- Bit 0 of the status word is the latch (R70). -/
theorem protectionStatus_staWord (c : Channel) (p : Path) :
    protectionStatus (c.staWord p) = if c.latch.get p then .tripped else .ok := by
  rw [protectionStatus, Channel.staWord]
  cases c.latch.get p <;> rfl

/-- Settles O57: the status is bit 0 of the word the read returns, which is the latch. -/
theorem protectionStatusTellsWhetherThePathTripped :
    Obligations.ProtectionStatusTellsWhetherThePathTripped := by
  intro p s hopen
  refine ⟨s.returning (s.chan.staWord p), ?_, rfl, ?_⟩
  · rw [← staReg_readInstr, exec_readInstr_open _ hopen, regWord_staReg]
  · rw [State.protectionStatus, returning_response, word_okayData, Option.map_some,
      protectionStatus_staWord, inPathState_tripped]

/-! ### What a release call leaves alone -/

/-- The settings of a channel that neither a clock edge nor a release call changes: the channel with every other
element blanked. -/
def Channel.settings (c : Channel) : Channel :=
  { c with
    cmpa := ⟨0, 0, 0⟩, pen := ⟨false, false⟩, latch := ⟨false, false⟩, keyst := ⟨.idle, .idle⟩, fcnt := ⟨0, 0⟩
    pgateU := false, pgateL := false, phase := 0, hold := ⟨0, 0, 0⟩, side := ⟨false, false, false⟩
    cnt := ⟨0, 0, 0⟩ }

theorem settings_tick (c : Channel) (e o : Bool) (y : SyncLevels) : (c.tick e o y).settings = c.settings := by
  simp [Channel.settings]

theorem settings_keyStep (c : Channel) (p : Path) (v : Word) : (c.keyStep p v).settings = c.settings := by
  obtain ⟨-, h⟩ | ⟨-, -, -, h⟩ | ⟨-, -, -, h⟩ | ⟨-, -, h⟩ := keyStep_cases c p v <;> rw [h] <;> rfl

/-- A path that is released and whose sequencer is idle (R100, R112). -/
structure Channel.ReleasedIdle (c : Channel) (p : Path) : Prop where
  pen : c.pen.get p = false
  latch : c.latch.get p = false
  keyst : c.keyst.get p = .idle

/-- A path that is not armed does not trip (R105, R107). -/
theorem releasedIdle_tick {c : Channel} {p : Path} (h : c.ReleasedIdle p) (e o : Bool) (y : SyncLevels) :
    (c.tick e o y).ReleasedIdle p where
  pen := by rw [tick_pen, h.pen]
  latch := by simp [filterLatch, Channel.active, h.pen, h.latch]
  keyst := by rw [tick_keyst, h.keyst]

theorem releasedIdle_keyStep_of_ne {c : Channel} {p q : Path} (h : c.ReleasedIdle q) (hne : q ≠ p) (v : Word) :
    (c.keyStep p v).ReleasedIdle q :=
  have same := samePath_keyStep_of_ne c v hne
  ⟨same.pen ▸ h.pen, same.latch ▸ h.latch, same.keyst ▸ h.keyst⟩

/-- Writing a control register back as it was read changes nothing (R68). -/
theorem storeCr_crWord (c : Channel) (p : Path) : c.storeCr p (c.crWord p) = c := by
  have pen : (c.crWord p)[0] = c.pen.get p := by
    rw [Channel.crWord, BitVec.getElem_append, dif_pos (by decide), BitVec.getElem_ofBool]
  have inpol : (c.crWord p)[1] = c.inpol.get p := by
    rw [Channel.crWord, BitVec.getElem_append, dif_neg (by decide), BitVec.getElem_append, dif_pos (by decide),
      BitVec.getElem_ofBool]
  have resp : (c.crWord p).extractLsb' 2 2 = c.resp.get p := by
    rw [Channel.crWord, BitVec.extractLsb'_append_eq_of_le (by decide),
      BitVec.extractLsb'_append_eq_of_le (by decide)]
    exact BitVec.extractLsb'_append_eq_right
  have filt : (c.crWord p).extractLsb' 4 4 = c.filt.get p := by
    rw [Channel.crWord, BitVec.extractLsb'_append_eq_of_le (by decide),
      BitVec.extractLsb'_append_eq_of_le (by decide), BitVec.extractLsb'_append_eq_of_le (by decide)]
    exact BitVec.extractLsb'_append_eq_right
  simp only [Channel.storeCr, pen, inpol, resp, filt, PerPath.set_get]

theorem PerPath.set_set {α : Type} (m : PerPath α) (i : Path) (a b : α) : (m.set i a).set i b = m.set i b := by
  cases i <;> rfl

/-- The path with its enable cleared (R100). -/
def Channel.disarm (c : Channel) (p : Path) : Channel :=
  { c with pen := c.pen.set p false }

/-- Bit 0 of a control word is the enable of the path and no part of its other settings (R68). -/
theorem storeCr_clearBit0 (c : Channel) (p : Path) (v : Word) :
    c.storeCr p (v &&& 0xFFFFFFFE) = (c.storeCr p v).disarm p := by
  have field : ∀ i n, BitVec.extractLsb' i n (0xFFFFFFFE : Word) = BitVec.allOnes n →
      (v &&& 0xFFFFFFFE).extractLsb' i n = v.extractLsb' i n := fun i n hm => by
    rw [BitVec.extractLsb'_and, hm, BitVec.and_allOnes]
  have pen : (v &&& 0xFFFFFFFE)[0] = false := by simp
  have inpol : (v &&& 0xFFFFFFFE)[1] = v[1] := by simp
  simp only [Channel.disarm, Channel.storeCr, pen, inpol, field 2 2 (by decide), field 4 4 (by decide),
    PerPath.set_set]
/-- The last write of a release call only disarms the path (R76). -/
theorem serve_disarmWrite (p : Path) {s : State} (h : s.gateOpen = true) :
    serve (encode (disarmWrite p (s.chan.crWord p))) s =
      .next (s.accepted (s.chan.disarm p)) := by
  have hunlocked : isLocked (crReg p) = true → s.chan.mden = false := by cases p <;> simp [crReg, isLocked]
  rw [disarmWrite, ← crReg_writeInstr, serve_encode_writeInstr_open _ h hunlocked, written_crReg,
    storeCr_clearBit0, storeCr_crWord]

theorem serve_readControl (p : Path) {s : State} (h : s.gateOpen = true) :
    serve (encode (readControl p)) s = .next (s.returning (s.chan.crWord p)) := by
  rw [← crReg_readInstr, serve_encode_readInstr_open _ h, regWord_crReg]

/-- What every step of a release call of path `p` keeps, from the state `s` before the call to a state `t` in it:
the gate, the settings, and each other path that is released. -/
structure ReleaseFrame (p : Path) (s t : State) : Prop where
  gateOpen : t.gateOpen = true
  settings : t.chan.settings = s.chan.settings
  others : ∀ q ≠ p, s.chan.ReleasedIdle q → t.chan.ReleasedIdle q

theorem releaseFrame_refl (p : Path) {s : State} (h : s.gateOpen = true) : ReleaseFrame p s s :=
  ⟨h, rfl, fun _ _ => id⟩

theorem releaseFrame_writeKey {p : Path} {s t : State} (h : ReleaseFrame p s t) (v : Word) :
    ReleaseFrame p s (t.accepted (t.chan.keyStep p v)) where
  gateOpen := h.gateOpen
  settings := (settings_keyStep _ p v).trans h.settings
  others q hq hs := releasedIdle_keyStep_of_ne (h.others q hq hs) hq v

theorem releaseFrame_tick {p : Path} {s t : State} (h : ReleaseFrame p s t) (e o : Bool) (y : SyncLevels) :
    ReleaseFrame p s (t.quietly (t.chan.tick e o y)) where
  gateOpen := h.gateOpen
  settings := (settings_tick _ e o y).trans h.settings
  others q hq hs := releasedIdle_tick (h.others q hq hs) e o y

theorem releaseFrame_disarm {p : Path} {s t : State} (h : ReleaseFrame p s t) :
    ReleaseFrame p s (t.accepted (t.chan.disarm p)) where
  gateOpen := h.gateOpen
  settings := h.settings
  others q hq hs :=
    have released := h.others q hq hs
    ⟨(PerPath.get_set_ne _ _ hq).trans released.pen, released.latch, released.keyst⟩

section Call

variable {p : Path} {wait : List Request} {s : State}

/-- The two keys and the clock edges between them keep the frame. -/
theorem releaseFrame_serve {r : Request} {t u : State} (hwait : ∀ r ∈ wait, ∃ e o y, r = .tick e o y)
    (hr : r ∈ releaseKeys p wait) (h : ReleaseFrame p s t) (hserve : serve r t = .next u) :
    ReleaseFrame p s u := by
  have of_key : ∀ v, r = encode (writeKey p v) → ReleaseFrame p s u := by
    rintro v rfl
    rw [serve_encode_writeKey p v h.gateOpen] at hserve
    cases hserve
    exact releaseFrame_writeKey h v
  have hmem : r = encode (writeKey p Config.key1) ∨ r ∈ wait ∨ r = encode (writeKey p Config.key2) := by
    simpa [releaseKeys] using hr
  obtain hkey1 | htick | hkey2 := hmem
  · exact of_key _ hkey1
  · obtain ⟨e, o, y, rfl⟩ := hwait r htick
    rw [serve, exec_tick_open e o y h.gateOpen] at hserve
    cases hserve
    exact releaseFrame_tick h e o y
  · exact of_key _ hkey2

/-- Clock edges write no key. -/
theorem keysWritten_ticks (hwait : ∀ r ∈ wait, ∃ e o y, r = .tick e o y) : keysWritten p wait = [] := by
  refine List.filterMap_eq_nil_iff.mpr fun r hr => ?_
  obtain ⟨e, o, y, rfl⟩ := hwait r hr
  cases p <;> rfl

/-- A release call completes with its path released; the settings and a released other path are as before. The
two keys clear the latch whatever the clock edges between them sample, and the last write disarms the path. -/
theorem releaseProtection_next (hopen : s.gateOpen = true) (hwait : ∀ r ∈ wait, ∃ e o y, r = .tick e o y) :
    ∃ t, releaseProtection p wait s = .next t ∧ t.chan.ReleasedIdle p ∧ ReleaseFrame p s t := by
  have no_reset : ∀ r ∈ wait, r ≠ .reset ∧ ∀ b, r ≠ .clkGate b := fun r hr => by
    obtain ⟨e, o, y, rfl⟩ := hwait r hr
    simp
  obtain ⟨u, hkeys, hlatch, hkeyst, -⟩ :=
    twoKeysReleaseThroughAnyWait p wait s hopen no_reset (keysWritten_ticks hwait)
  have hframe : ReleaseFrame p s u :=
    serveAll_keeps (fun r hr _ _ => releaseFrame_serve hwait hr) (releaseFrame_refl p hopen) hkeys
  refine ⟨u.accepted (u.chan.disarm p), ?_, ⟨PerPath.get_set_same _ _ _, hlatch, hkeyst⟩, releaseFrame_disarm hframe⟩
  rw [releaseProtection, serveAll_append, hkeys, andThen_next, serveAll_cons,
    serve_readControl p hframe.gateOpen, andThen_next, serveAll_nil, andThen_next]
  exact serve_disarmWrite p (s := u.returning _) hframe.gateOpen

end Call

theorem inPathState_of_releasedIdle {c : Channel} {p : Path} (h : c.ReleasedIdle p) :
    c.inPathState p .released = true := by
  rw [inPathState_released, h.pen, h.latch]
  rfl

/-- Settles O58: the call of `releaseProtection_next`; polarity, response and filter are settings. -/
theorem releaseProtectionLeavesThePathReleased : Obligations.ReleaseProtectionLeavesThePathReleased := by
  intro p wait s hopen hwait
  obtain ⟨t, hcall, hreleased, hframe⟩ := releaseProtection_next (p := p) hopen hwait
  have kept {α : Type} (f : Channel → α) : f t.chan.settings = f s.chan.settings :=
    congrArg f hframe.settings
  exact ⟨t, hcall, inPathState_of_releasedIdle hreleased, hreleased.keyst,
    kept (·.inpol.get p), kept (·.resp.get p), kept (·.filt.get p)⟩

/-! ### The initialisation of a channel -/

/-- The channel as the Waveform Configurator leaves it (R76, R94). -/
def Channel.waveformConfigured (c : Channel) : Channel :=
  (c.storeWfc 0x000001D5).storeOpl 0x00000027

/-- The gate is opened first, so that in CONFIG mode both writes of the Waveform Configurator are accepted. -/
theorem serveAll_waveformConfigurator {s : State} (hconfig : WaveformPrecondition s) :
    serveAll (.clkGate true :: waveformConfigurator.map encode) s =
      .next ((s.setGate true).accepted s.chan.waveformConfigured) := by
  have gate : serve (.clkGate true) s = .next (s.setGate true) := rfl
  have wfc : serve (encode (.wrWfc 0x000001D5)) (s.setGate true) =
      .next ((s.setGate true).accepted (s.chan.storeWfc 0x000001D5)) :=
    serve_encode_writeInstr_open (r := .wfc) (s := s.setGate true) _ rfl fun _ => hconfig
  have opl : serve (encode (.wrOpl 0x00000027)) ((s.setGate true).accepted (s.chan.storeWfc 0x000001D5)) =
      .next ((s.setGate true).accepted s.chan.waveformConfigured) :=
    serve_encode_writeInstr_open (r := .opl) (s := (s.setGate true).accepted _) _ rfl fun _ => hconfig
  rw [serveAll_cons, gate, andThen_next, waveformConfigurator, List.map_cons, List.map_singleton,
    serveAll_cons, wfc, andThen_next, serveAll_cons, opl, andThen_next, serveAll_nil]

/-- Both paths are released: the second call leaves the first path released. -/
theorem disableOnInit_next {waitEmg waitOvv : List Request} {s : State} (hopen : s.gateOpen = true)
    (hwait : ∀ r ∈ waitEmg ++ waitOvv, ∃ e o y, r = .tick e o y) :
    ∃ t, disableOnInit waitEmg waitOvv s = .next t ∧ t.gateOpen = true ∧
      t.chan.settings = s.chan.settings ∧ ∀ p, t.chan.ReleasedIdle p := by
  obtain ⟨hwaitEmg, hwaitOvv⟩ := List.forall_mem_append.mp hwait
  obtain ⟨u, hemg, hreleasedEmg, hframeEmg⟩ := releaseProtection_next (p := .emg) hopen hwaitEmg
  obtain ⟨t, hovv, hreleasedOvv, hframeOvv⟩ :=
    releaseProtection_next (p := .ovv) hframeEmg.gateOpen hwaitOvv
  refine ⟨t, by rw [disableOnInit, hemg, andThen_next, hovv], hframeOvv.gateOpen,
    hframeOvv.settings.trans hframeEmg.settings, fun p => ?_⟩
  cases p with
  | emg => exact hframeOvv.others .emg (by decide) hreleasedEmg
  | ovv => exact hreleasedOvv

/-- A disabled channel with both groups active-high drives all six outputs to 0 (R159, R160). -/
theorem pins_of_disabled {c : Channel} (hm : c.mden = false) (hh : c.polh = true) (hl : c.poll = true) :
    c.pins = ⟨false, false, false, false, false, false⟩ := by
  simp [Channel.pins, Channel.upperPin, Channel.lowerPin, Channel.upperOn, Channel.lowerOn, hm, hh, hl]

/-- In CONFIG mode every clock edge updates the protection-output buffer, and with both paths released nothing
forces it (R109, R110). -/
theorem tick_pgate_of_released {c : Channel} (hm : c.mden = false) (h : ∀ p, c.ReleasedIdle p) (e o : Bool)
    (y : SyncLevels) : (c.tick e o y).pgateU = false ∧ (c.tick e o y).pgateL = false := by
  obtain ⟨upd, hupd, -, hu, hl⟩ := tick_pgate c e o y
  have hemg : (c.tick e o y).latch.emg = false := (releasedIdle_tick (h .emg) e o y).latch
  have hovv : (c.tick e o y).latch.ovv = false := (releasedIdle_tick (h .ovv) e o y).latch
  rw [hu, hl, hupd hm, Channel.wantU, Channel.wantL, hemg, hovv]
  simp

/-- Settles O59: the gate is open and the waveform stored before the paths are released, and all that the
statement says of the registers is said of settings, which the release calls keep. -/
theorem initialisationEndsReleasedAndDisabled : Obligations.InitialisationEndsReleasedAndDisabled := by
  intro waitEmg waitOvv s hconfig hwait
  obtain ⟨t, hcall, hopen, hsettings, hreleased⟩ :=
    disableOnInit_next (s := (s.setGate true).accepted s.chan.waveformConfigured) rfl hwait
  have kept {α : Type} (f : Channel → α) : f t.chan.settings = f s.chan.waveformConfigured.settings :=
    congrArg f hsettings
  have hmden : t.chan.mden = false := (kept Channel.mden).trans hconfig
  refine ⟨t, by rw [initChannel, serveAll_waveformConfigurator hconfig, andThen_next, hcall], hopen, hmden,
    (kept Channel.wfcWord).trans (wfcWord_storeWfc s.chan 0x000001D5),
    (kept Channel.oplWord).trans (oplWord_storeOpl (s.chan.storeWfc 0x000001D5) 0x00000027),
    fun p => ⟨inPathState_of_releasedIdle (hreleased p), (hreleased p).keyst⟩,
    pins_of_disabled hmden (kept Channel.polh) (kept Channel.poll),
    kept Channel.upmd, kept Channel.lomd, kept Channel.dtr, kept Channel.rate, kept Channel.cmpb,
    fun e o y => ⟨_, exec_tick_open e o y hopen, tick_pgate_of_released hmden hreleased e o y⟩⟩

end Sys2Proof.Machine
end

section
/-! ## The dead-time counters over clock edges, and a run of edges after the enabling write (R84, R154 to R156) -/

namespace Sys2Proof.Machine

/-- The dead-time count is restarted or counts down, not below 0 (R155). -/
theorem insertCount_cases (s side : Bool) (dtr cnt : Word) :
    insertCount s side dtr cnt = dtr ∨ (insertCount s side dtr cnt).toNat = cnt.toNat - 1 := by
  unfold insertCount
  split
  case isTrue => exact .inl rfl
  case isFalse =>
    split
    case isTrue hcounting => exact .inr (by bv_omega)
    case isFalse hzero => exact .inr (by simp [not_not.mp hzero])

/-- The stretch count is restarted, or counts down or is cleared (R154). -/
theorem stretchHold_cases (dtcren raw : Bool) (dtr hold : Word) :
    stretchHold dtcren raw dtr hold = dtr ∨ (stretchHold dtcren raw dtr hold).toNat ≤ hold.toNat := by
  cases dtcren with
  | false => exact .inr (Nat.zero_le _)
  | true =>
    cases raw with
    | true => exact .inl rfl
    | false =>
      by_cases hzero : hold = 0#32
      · exact .inr (by simp [stretchHold, hzero])
      · have hdown : stretchHold true false dtr hold = hold - 1 := by simp [stretchHold, hzero]
        exact .inr (by rw [hdown]; bv_omega)

/-- T5 of a clock edge in RUN mode, for one phase and the raw PWM of that edge (R154, R155). -/
theorem tick_deadTime_run {c : Channel} (e o : Bool) (y : SyncLevels) (x : Phase) (h : c.mden = true) :
    ∃ raw : Bool,
      (c.tick e o y).hold.get x = stretchHold c.dtcren raw c.dtr (c.hold.get x) ∧
      (c.tick e o y).cnt.get x =
        insertCount (stretched c.dtcren raw (c.hold.get x)) (c.side.get x) c.dtr (c.cnt.get x) := by
  refine ⟨(c.t2.t3 c.evCtr c.evEnd).rawPwm x, ?_, ?_⟩
  · rw [tick_hold_run c e o y h]
    simp [Channel.runSteps]
  · rw [tick_cnt_run c e o y h]
    simp [Channel.runSteps]

/-- A clock edge of either mode restarts a dead-time count or lowers it by at most 1. -/
theorem tick_cnt_cases (c : Channel) (e o : Bool) (y : SyncLevels) (x : Phase) :
    (c.tick e o y).cnt.get x = c.dtr ∨ (c.cnt.get x).toNat ≤ ((c.tick e o y).cnt.get x).toNat + 1 := by
  cases hmode : c.mden with
  | false => exact .inr (by simp [tick_cnt_config c e o y hmode])
  | true =>
    obtain ⟨raw, -, hcnt⟩ := tick_deadTime_run e o y x hmode
    rw [hcnt]
    exact (insertCount_cases _ _ _ _).imp_right fun hdown => by omega

/-- A count that at most `k` edges have lowered from `DTR` has after a run of edges been lowered by at most `k`
and the length of the run. -/
theorem dtr_le_cnt_ticks {c : Channel} {x : Phase} {k : Nat} (levels : List TickLevels)
    (h : c.dtr.toNat ≤ (c.cnt.get x).toNat + k) :
    c.dtr.toNat ≤ ((c.ticks levels).cnt.get x).toNat + (k + levels.length) := by
  induction levels generalizing c k with
  | nil => exact h
  | cons l rest ih =>
    have hedge : (c.tick l.emgIn l.ovvIn l.syncIn).dtr.toNat ≤
        ((c.tick l.emgIn l.ovvIn l.syncIn).cnt.get x).toNat + (k + 1) := by
      rw [tick_dtr]
      obtain hrestart | hdown := tick_cnt_cases c l.emgIn l.ovvIn l.syncIn x
      · rw [hrestart]
        omega
      · omega
    have hrest := ih hedge
    rw [tick_dtr] at hrest
    rw [Channel.ticks, List.length_cons]
    omega

/-- While its count runs a phase has both commands off (R156). -/
theorem commands_off_of_counting {c : Channel} {x : Phase} (h : 0 < (c.cnt.get x).toNat) :
    c.plainOn x = false ∧ c.compOn x = false := by
  have hne : c.cnt.get x ≠ 0#32 := fun hzero => by simp [hzero] at h
  simp [Channel.plainOn, Channel.compOn, hne]

/-- The enabling write with the gate open: the run state is initialised and `MDEN` set (R82, R84). -/
theorem exec_wrEn_start {d : Word} {s : State} (hopen : s.gateOpen = true) (hconfig : s.chan.mden = false)
    (hd : d[0] = true) :
    exec (.wrEn d) s = .next (s.accepted { s.chan.initRun with mden := true }) := by
  rw [← storeEn_start hconfig hd]
  exact exec_writeInstr_open (r := .en) d hopen (by simp [isLocked])

/-- Settles O35: the enabling write loads `DTR` into every count, and a run shorter than `DTR` does not bring one
to 0 (`dtr_le_cnt_ticks`). -/
theorem enableWaitsAFullDeadTime : Obligations.EnableWaitsAFullDeadTime := by
  intro d s t x levels hopen hconfig hd hexec hshort
  rw [exec_wrEn_start hopen hconfig hd] at hexec
  cases hexec
  have hloaded : ({ s.chan.initRun with mden := true } : Channel).cnt.get x = s.chan.dtr := by
    cases x <;> rfl
  have hleft := dtr_le_cnt_ticks (c := { s.chan.initRun with mden := true }) (x := x) (k := 0) levels
    (Nat.le_of_eq (by rw [hloaded]; rfl))
  refine commands_off_of_counting ?_
  rw [accepted_chan]
  rw [initRun_dtr] at hleft
  omega

end Sys2Proof.Machine
end

section
/-! ## The configuration lock and the invariant over every step (R81, R84, R109, R110, R154, R155) -/

namespace Sys2Proof.Machine

/-! ### What no step in RUN mode changes -/

/-- A key write reaches nothing but the sequencer, the latch and the enable of a path (R112, R113). -/
theorem keyStep_frame (c : Channel) (p : Path) (v : Word) : ∃ keyst latch pen,
    c.keyStep p v = { c with keyst := keyst, latch := latch, pen := pen } := by
  obtain ⟨-, hk⟩ | ⟨-, -, -, hk⟩ | ⟨-, -, -, hk⟩ | ⟨-, -, hk⟩ := keyStep_cases c p v <;> exact ⟨_, _, _, hk⟩

/-- No clock edge changes a locked register (R150). -/
theorem sameLocked_tick (c : Channel) (e o : Bool) (y : SyncLevels) : SameLocked c (c.tick e o y) := by
  constructor <;> simp

/-- A write to a register outside the lock, EN included, changes no locked register (R80, R81). -/
theorem sameLocked_written {q : Reg} (v : Word) (c : Channel) (h : isLocked q = false) :
    SameLocked c (written q v c) := by
  have of_keyStep : ∀ p, SameLocked c (c.keyStep p v) := fun p => by
    obtain ⟨_, _, _, hkey⟩ := keyStep_frame c p v
    rw [hkey]
    constructor <;> rfl
  cases q with
  | en => obtain ⟨-, -, hen⟩ | ⟨-, hen⟩ := storeEn_cases c v <;> rw [written, hen] <;> constructor <;> rfl
  | emgrel => exact of_keyStep .emg
  | ovvrel => exact of_keyStep .ovv
  | pom | wfc | opl | dtr => cases h
  | rate | cmpu | cmpv | cmpw | emgcr | ovvcr | emgsta | ovvsta => constructor <;> rfl

/-- Settles O45: a reset leaves RUN mode, a clock edge keeps the locked registers, and in RUN mode the only
writes accepted are those outside the lock. -/
theorem runModeLocksTheConfiguration : Obligations.RunModeLocksTheConfiguration := by
  intro s t hstep hrun hrunAfter
  obtain hsame | ⟨-, htable⟩ | ⟨e, o, y, -, -, htick⟩ | ⟨q, v, -, -, hlock, hwritten⟩ := step_chan hstep
  · rw [hsame]
    constructor <;> rfl
  · rw [htable, reset_mden] at hrunAfter
    cases hrunAfter
  · rw [htick]
    exact sameLocked_tick s.chan e o y
  · have hunlocked : isLocked q = false :=
      Bool.eq_false_iff.mpr fun hl => by simp [hlock hl] at hrun
    rw [hwritten]
    exact sameLocked_written v s.chan hunlocked

/-! ### A latch forces a group off -/

/-- A set latch makes T6 ask for at least one group, since no response code forces nothing (R109). -/
theorem want_of_latch {c : Channel} (h : (c.latch.emg || c.latch.ovv) = true) :
    (c.wantU || c.wantL) = true := by
  have emg := forces_some_group c.resp.emg
  have ovv := forces_some_group c.resp.ovv
  rw [Bool.or_eq_true_iff] at emg ovv
  rw [Channel.wantU, Channel.wantL]
  obtain hemg | hovv := Bool.or_eq_true_iff.mp h
  · obtain hupper | hlower := emg
    · simp [hemg, hupper]
    · simp [hemg, hlower]
  · obtain hupper | hlower := ovv
    · simp [hovv, hupper]
    · simp [hovv, hlower]

/-- T6 forces what the latches ask for (R110). -/
theorem latchForces_tick (c : Channel) (e o : Bool) (y : SyncLevels) : (c.tick e o y).LatchForces := by
  intro hlatch
  obtain ⟨hupper, hlower⟩ := tick_forces c e o y
  obtain hwant | hwant := Bool.or_eq_true_iff.mp (want_of_latch hlatch)
  · rw [hupper hwant, Bool.true_or]
  · rw [hlower hwant, Bool.or_true]

/-- A register write sets no latch and leaves the protection-output buffer alone (R107, R110). -/
theorem written_latch_pgate (q : Reg) (v : Word) (c : Channel) :
    (∀ p, (written q v c).latch.get p = true → c.latch.get p = true) ∧
      (written q v c).pgateU = c.pgateU ∧ (written q v c).pgateL = c.pgateL := by
  have of_keyStep : ∀ r, (∀ p, (c.keyStep r v).latch.get p = true → c.latch.get p = true) ∧
      (c.keyStep r v).pgateU = c.pgateU ∧ (c.keyStep r v).pgateL = c.pgateL := fun r => by
    obtain ⟨-, hk⟩ | ⟨-, -, -, hk⟩ | ⟨-, -, -, hk⟩ | ⟨-, -, hk⟩ := keyStep_cases c r v <;>
      rw [hk] <;> simp [PerPath.get_set]
  cases q with
  | en => obtain ⟨-, -, hen⟩ | ⟨-, hen⟩ := storeEn_cases c v <;> rw [written, hen] <;> exact ⟨fun _ => id, rfl, rfl⟩
  | emgrel => exact of_keyStep .emg
  | ovvrel => exact of_keyStep .ovv
  | _ => exact ⟨fun _ => id, rfl, rfl⟩

theorem latchForces_written {c : Channel} (q : Reg) (v : Word) (h : c.LatchForces) :
    (written q v c).LatchForces := by
  obtain ⟨hlatch, hupper, hlower⟩ := written_latch_pgate q v c
  intro hset
  rw [hupper, hlower]
  exact h (Bool.or_eq_true_iff.mpr ((Bool.or_eq_true_iff.mp hset).imp (hlatch .emg) (hlatch .ovv)))

/-! ### The counters stay within the dead time -/

theorem insertCount_le {s side : Bool} {dtr cnt : Word} (h : cnt ≤ dtr) : insertCount s side dtr cnt ≤ dtr := by
  rw [BitVec.le_def] at h ⊢
  obtain hrestart | hdown := insertCount_cases s side dtr cnt
  · rw [hrestart]
  · omega

theorem stretchHold_le {dtcren raw : Bool} {dtr hold : Word} (h : hold ≤ dtr) :
    stretchHold dtcren raw dtr hold ≤ dtr := by
  rw [BitVec.le_def] at h ⊢
  obtain hrestart | hdown := stretchHold_cases dtcren raw dtr hold
  · rw [hrestart]
  · exact hdown.trans h

/-- A clock edge keeps the invariant. -/
theorem inv_tick {c : Channel} (h : c.Inv) (e o : Bool) (y : SyncLevels) : (c.tick e o y).Inv where
  latchForces := latchForces_tick c e o y
  countersBounded hrun x := by
    rw [tick_mden] at hrun
    obtain ⟨hcnt, hhold⟩ := h.countersBounded hrun x
    obtain ⟨raw, hholdAfter, hcntAfter⟩ := tick_deadTime_run e o y x hrun
    rw [tick_dtr, hholdAfter, hcntAfter]
    exact ⟨insertCount_le hcnt, stretchHold_le hhold⟩
  noStaleHold hrun hoff x := by
    rw [tick_mden] at hrun
    rw [tick_dtcren] at hoff
    obtain ⟨raw, hholdAfter, -⟩ := tick_deadTime_run e o y x hrun
    rw [hholdAfter, hoff]
    rfl

/-- The enabling write loads the counts with `DTR` and clears the stretch counters (R84). -/
theorem inv_initRun {c : Channel} (h : c.LatchForces) : ({ c.initRun with mden := true } : Channel).Inv where
  latchForces := h
  countersBounded _ x := by cases x <;> exact ⟨BitVec.le_refl _, BitVec.le_def.mpr (Nat.zero_le _)⟩
  noStaleHold _ _ x := by cases x <;> rfl

/-- A write to any register but EN leaves the run state alone (R85, R140, R150). -/
theorem written_runState_of_ne {q : Reg} (v : Word) (c : Channel) (h : q ≠ .en) :
    (written q v c).phase = c.phase ∧ (written q v c).cmpa = c.cmpa ∧ (written q v c).hold = c.hold ∧
      (written q v c).side = c.side ∧ (written q v c).cnt = c.cnt := by
  have of_keyStep : ∀ p, (c.keyStep p v).phase = c.phase ∧ (c.keyStep p v).cmpa = c.cmpa ∧
      (c.keyStep p v).hold = c.hold ∧ (c.keyStep p v).side = c.side ∧ (c.keyStep p v).cnt = c.cnt := fun p => by
    obtain ⟨_, _, _, hkey⟩ := keyStep_frame c p v
    rw [hkey]
    exact ⟨rfl, rfl, rfl, rfl, rfl⟩
  cases q with
  | en => exact absurd rfl h
  | emgrel => exact of_keyStep .emg
  | ovvrel => exact of_keyStep .ovv
  | _ => exact ⟨rfl, rfl, rfl, rfl, rfl⟩

/-- An accepted register write keeps the invariant: a write to EN starts a run or moves `MDEN` alone, a locked
one is accepted in CONFIG mode only, and no other reaches the counters. -/
theorem inv_written {c : Channel} {q : Reg} (v : Word) (h : c.Inv) (hlock : isLocked q = true → c.mden = false) :
    (written q v c).Inv := by
  have hforces := latchForces_written q v h.latchForces
  by_cases hen : q = .en
  · subst hen
    obtain ⟨-, -, hstart⟩ | ⟨hkeep, hmden⟩ := storeEn_cases c v
    · rw [written, hstart]
      exact inv_initRun h.latchForces
    · rw [written, hmden]
      have hwasRun : v[0] = true → c.mden = true := fun hd => hkeep.resolve_right (by simp [hd])
      exact ⟨h.latchForces, fun hrun => h.countersBounded (hwasRun hrun),
        fun hrun => h.noStaleHold (hwasRun hrun)⟩
  · have hmden := written_mden_of_ne v c hen
    cases hl : isLocked q with
    | true => exact inv_of_config (hmden.trans (hlock hl)) hforces
    | false =>
      obtain ⟨-, -, hhold, -, hcnt⟩ := written_runState_of_ne v c hen
      have hkept := sameLocked_written v c hl
      refine ⟨hforces, fun hrun => ?_, fun hrun hoff => ?_⟩
      · rw [hhold, hcnt, ← hkept.dtr]
        exact h.countersBounded (hmden ▸ hrun)
      · rw [hhold]
        exact h.noStaleHold (hmden ▸ hrun) (hkept.dtcren.trans hoff)

/-- Settles O38: each of the four things a step can do to the channel (`step_chan`) keeps the invariant. -/
theorem everyStepKeepsTheInvariant : Obligations.EveryStepKeepsTheInvariant := by
  intro s t hinv hstep
  obtain hsame | ⟨-, htable⟩ | ⟨e, o, y, -, -, htick⟩ | ⟨q, v, -, -, hlock, hwritten⟩ := step_chan hstep
  · exact hsame ▸ hinv
  · exact htable ▸ inv_reset Config.latchRst
  · exact htick ▸ inv_tick hinv e o y
  · exact hwritten ▸ inv_written v hinv hlock

end Sys2Proof.Machine
end

section
/-! ## In CONFIG mode the run state is not observed (R85, R150, R159, R160) -/

namespace Sys2Proof.Machine

/-! ### Pins of a channel in CONFIG mode -/

/-- In CONFIG mode an upper pin is at its inactive level (R159, R160). -/
theorem upperPin_config {c : Channel} (x : Phase) (h : c.mden = false) : c.upperPin x = !c.polh := by
  cases hpol : c.polh <;> simp [Channel.upperPin, Channel.upperOn, h, hpol]

/-- In CONFIG mode a lower pin is at its inactive level (R159, R160). -/
theorem lowerPin_config {c : Channel} (x : Phase) (h : c.mden = false) : c.lowerPin x = !c.poll := by
  cases hpol : c.poll <;> simp [Channel.lowerPin, Channel.lowerOn, h, hpol]

/-- In CONFIG mode the outputs are a function of the polarities alone. -/
theorem pins_config {c : Channel} (h : c.mden = false) :
    c.pins = ⟨!c.polh, !c.polh, !c.polh, !c.poll, !c.poll, !c.poll⟩ := by
  simp only [Channel.pins, upperPin_config _ h, lowerPin_config _ h]

/-! ### What does not read the run state -/

/-- The channel `c` with the run state of `d`; `SameButRunState c d` is `d = c.withRunOf d`. -/
def Channel.withRunOf (c d : Channel) : Channel :=
  { c with phase := d.phase, cmpa := d.cmpa, hold := d.hold, side := d.side, cnt := d.cnt }

theorem sameButRunState_withRunOf (c d : Channel) : SameButRunState c (c.withRunOf d) := rfl

/-- No register gives back the run state (R71, R132). -/
theorem regWord_withRunOf (c d : Channel) (q : Reg) : (c.withRunOf d).regWord q = c.regWord q := by
  cases q <;> rfl

/-- In CONFIG mode a clock edge keeps the run state and does not read it (R150). -/
theorem tick_withRunOf {c : Channel} (d : Channel) (e o : Bool) (y : SyncLevels) (h : c.mden = false) :
    (c.withRunOf d).tick e o y = (c.tick e o y).withRunOf d := by
  rw [tick_config (c := c.withRunOf d) e o y h, tick_config e o y h]
  rfl

theorem release_withRunOf (c d : Channel) (p : Path) : (c.withRunOf d).release p = (c.release p).withRunOf d := by
  cases hlatch : c.latch.get p with
  | false => rw [release_clear hlatch, release_clear (c := c.withRunOf d) hlatch]
  | true =>
    rw [release_set hlatch, release_set (c := c.withRunOf d) hlatch]
    rfl

theorem keyStep_withRunOf (c d : Channel) (p : Path) (v : Word) :
    (c.withRunOf d).keyStep p v = (c.keyStep p v).withRunOf d := by
  by_cases hkey1 : v = Config.key1
  · rw [hkey1, keyStep_key1, keyStep_key1]
    rfl
  by_cases hkey2 : v = Config.key2 ∧ c.keyst.get p = .k1
  · obtain ⟨rfl, hk1⟩ := hkey2
    rw [keyStep_key2 hk1, keyStep_key2 (c := c.withRunOf d) hk1]
    exact release_withRunOf (c.withKey p .idle) d p
  · rw [keyStep_other hkey1 hkey2, keyStep_other (c := c.withRunOf d) hkey1 hkey2]
    rfl

/-- A write to any register but EN does not read the run state. -/
theorem written_withRunOf_of_ne {q : Reg} (v : Word) (c d : Channel) (h : q ≠ .en) :
    written q v (c.withRunOf d) = (written q v c).withRunOf d := by
  cases q with
  | en => exact absurd rfl h
  | emgrel => exact keyStep_withRunOf c d .emg v
  | ovvrel => exact keyStep_withRunOf c d .ovv v
  | _ => rfl

/-- In CONFIG mode a write to EN either overwrites the whole run state (R84) or does not read it (R85). -/
theorem storeEn_withRunOf {c : Channel} (d : Channel) (v : Word) (h : c.mden = false) :
    c.storeEn v = (c.withRunOf d).storeEn v ∨
      (v[0] = false ∧ (c.withRunOf d).storeEn v = (c.storeEn v).withRunOf d) := by
  cases hv : v[0] with
  | true =>
    left
    rw [storeEn_start h hv, storeEn_start (c := c.withRunOf d) h hv]
    rfl
  | false =>
    refine .inr ⟨rfl, ?_⟩
    rw [storeEn_keep (c := c) (.inr hv), storeEn_keep (c := c.withRunOf d) (.inr hv)]
    rfl

/-! ### Two channels, and two states, that look alike -/

/-- Two channels that no agent can tell apart: equal, or in CONFIG mode and equal but for the run state. -/
def Channel.LooksLike (c d : Channel) : Prop :=
  c = d ∨ (c.mden = false ∧ SameButRunState c d)

theorem looksLike_withRunOf {c : Channel} (d : Channel) (h : c.mden = false) : c.LooksLike (c.withRunOf d) :=
  .inr ⟨h, sameButRunState_withRunOf c d⟩

/-- Channels that look alike drive the same outputs. -/
theorem pins_of_looksLike {c d : Channel} (h : c.LooksLike d) : c.pins = d.pins := by
  obtain rfl | ⟨hconfig, hsame⟩ := h
  · rfl
  · have hother : (c.withRunOf d).mden = false := hconfig
    have hd : d = c.withRunOf d := hsame
    rw [hd, pins_config hconfig, pins_config hother]
    rfl

/-- An accepted register write keeps two channels alike. -/
theorem looksLike_written {c : Channel} (d : Channel) (q : Reg) (v : Word) (h : c.mden = false) :
    (written q v c).LooksLike (written q v (c.withRunOf d)) := by
  by_cases hen : q = .en
  · subst hen
    obtain hequal | ⟨hv, hcommutes⟩ := storeEn_withRunOf d v h
    · exact .inl hequal
    · rw [written, written, hcommutes]
      exact looksLike_withRunOf d ((storeEn_mden c v).trans hv)
  · rw [written_withRunOf_of_ne v c d hen]
    exact looksLike_withRunOf d ((written_mden_of_ne v c hen).trans h)

/-- All that is seen of a state, and all that decides what is seen after it. -/
structure State.LooksLike (s t : State) : Prop where
  response : s.response = t.response
  gateOpen : s.gateOpen = t.gateOpen
  pending : s.pending = t.pending
  draws : s.draws = t.draws
  chan : s.chan.LooksLike t.chan

/-- The state with the run state of another channel, and with another last response. -/
def State.withRunOf (s : State) (d : Channel) (last : Response) : State :=
  { s with chan := s.chan.withRunOf d, response := last }

theorem takeRequest_withRunOf (s : State) (d : Channel) (last : Response) :
    takeRequest (s.withRunOf d last) = (takeRequest s).withRunOf d last := by
  cases hpending : s.pending with
  | nil =>
    rw [takeRequest_of_pending_nil hpending, takeRequest_of_pending_nil (s := s.withRunOf d last) hpending]
    rfl
  | cons r rest =>
    rw [takeRequest_pending hpending, takeRequest_pending (s := s.withRunOf d last) hpending]
    rfl

/-- With the gate open a word that is no operation on a register is answered with its error (R74, R170). -/
theorem serveWord_error_open {s : State} {w : TxWord} {code : BusError} (hdecode : decode w = .error code)
    (hgate : s.gateOpen = true) : serveWord w s = .next (raiseBusError code s) := by
  rw [serveWord, hdecode]
  simp only [refuseBus, hgate, if_true]

/-- A word is answered alike whatever the run state: the write or read it decodes to does not read it, and an
error changes nothing. -/
theorem serveWord_looksLike {s : State} (d : Channel) (last : Response) (w : TxWord) (h : s.chan.mden = false) :
    ∃ s' t', serveWord w s = .next s' ∧ serveWord w (s.withRunOf d last) = .next t' ∧ s'.LooksLike t' := by
  have hkept := looksLike_withRunOf d h
  cases hgate : s.gateOpen with
  | false =>
    refine ⟨_, _, serveWord_closed w hgate, serveWord_closed w hgate, ?_⟩
    cases w[40] <;> exact ⟨rfl, rfl, rfl, rfl, hkept⟩
  | true =>
    cases hdecode : decode w with
    | error code =>
      exact ⟨_, _, serveWord_error_open hdecode hgate, serveWord_error_open hdecode hgate,
        rfl, rfl, rfl, rfl, hkept⟩
    | ok i =>
      rw [serveWord, serveWord, hdecode]
      obtain ⟨q, v, rfl⟩ | ⟨q, rfl⟩ := decode_ok_cases hdecode
      · exact ⟨_, _, exec_writeInstr_open v hgate fun _ => h, exec_writeInstr_open v hgate fun _ => h,
          rfl, rfl, rfl, rfl, looksLike_written d q v h⟩
      · exact ⟨_, _, exec_readInstr_open q hgate, exec_readInstr_open q hgate,
          congrArg Response.okayData (regWord_withRunOf s.chan d q).symm, rfl, rfl, rfl, hkept⟩

/-- Serving one request from a state in CONFIG mode, and from the same state with another run state, gives states
that look alike. -/
theorem serve_looksLike {s : State} (d : Channel) (last : Response) (r : Request) (h : s.chan.mden = false) :
    ∃ s' t', serve r s = .next s' ∧ serve r (s.withRunOf d last) = .next t' ∧ s'.LooksLike t' := by
  have hkept := looksLike_withRunOf d h
  cases r with
  | bus w => exact serveWord_looksLike d last w h
  | clkGate b => exact ⟨_, _, rfl, rfl, rfl, rfl, rfl, rfl, hkept⟩
  | reset => exact ⟨_, _, rfl, rfl, rfl, rfl, rfl, rfl, .inl rfl⟩
  | tick e o y =>
    cases hgate : s.gateOpen with
    | false =>
      exact ⟨_, _, exec_tick_closed e o y hgate, exec_tick_closed e o y hgate, rfl, rfl, rfl, rfl, hkept⟩
    | true =>
      have hedge : (s.chan.tick e o y).LooksLike ((s.chan.withRunOf d).tick e o y) :=
        tick_withRunOf d e o y h ▸ looksLike_withRunOf d ((tick_mden s.chan e o y).trans h)
      exact ⟨_, _, exec_tick_open e o y hgate, exec_tick_open e o y hgate, rfl, rfl, rfl, rfl, hedge⟩

/-- Settles O48: the second state is the first with another run state, both take the same request, and serving it
gives states that look alike (`serve_looksLike`). -/
theorem runStateIsUnobservableInConfigMode : Obligations.RunStateIsUnobservableInConfigMode := by
  intro s t s' t' hconfig hsame hgate hpending hdraws hs ht
  have hother : t = s.withRunOf t.chan t.response := by
    rw [State.withRunOf, ← show t.chan = s.chan.withRunOf t.chan from hsame, hgate, hpending, hdraws]
  rw [hother, step_eq, takeRequest_withRunOf] at ht
  obtain ⟨u, u', hu, hu', hview⟩ :=
    serve_looksLike (s := takeRequest s) t.chan t.response (nextRequest s) (by rwa [takeRequest_chan])
  obtain rfl : u = s' := Host.Outcome.next.inj (hu.symm.trans hs)
  obtain rfl : u' = t' := Host.Outcome.next.inj (hu'.symm.trans ht)
  exact ⟨hview.response, pins_of_looksLike hview.chan, hview.gateOpen, hview.pending, hview.draws, hview.chan⟩

end Sys2Proof.Machine
end

section
/-! ## The configuration registers: EN, POM, WFC, OPL and DTR (R80 to R93) -/

namespace Sys2Proof.Machine

/-! ### Writes -/

/-- Every write to EN but the enabling one moves `MDEN` alone (R82, R85). -/
theorem exec_wrEn_keep {d : Word} {s : State} (hopen : s.gateOpen = true)
    (hkeep : s.chan.mden = true ∨ d[0] = false) :
    exec (.wrEn d) s = .next (s.accepted { s.chan with mden := d[0] }) := by
  rw [← storeEn_keep hkeep]
  exact exec_writeInstr_open (r := .en) d hopen (by simp [isLocked])

/-- A locked write in RUN mode is refused (R81, R174). -/
theorem exec_writeInstr_locked {r : Reg} {s : State} (v : Word) (hopen : s.gateOpen = true)
    (hlocked : isLocked r = true) (hrun : s.chan.mden = true) :
    exec (r.writeInstr v) s = .next (raiseBusError .locked s) := by
  rw [exec_writeInstr, if_pos hlocked, lockedWrite, if_pos hopen, if_pos hrun]

/-- In CONFIG mode both pin groups are at their inactive level (R159, R160). -/
theorem inactive_config {c : Channel} (h : c.mden = false) : c.upperInactive ∧ c.lowerInactive := by
  rw [Channel.upperInactive, Channel.lowerInactive, pins_config h]
  exact ⟨⟨rfl, rfl, rfl⟩, rfl, rfl, rfl⟩

/-- Settles O8: the enabling write (`exec_wrEn_start`), with `initRun` element by element. -/
theorem enablingWriteStartsTheRun : Obligations.EnablingWriteStartsTheRun :=
  fun _ _ hopen hconfig hd => exec_wrEn_start hopen hconfig hd

/-- Settles O9: the write moves `MDEN` alone (`exec_wrEn_keep`), and in CONFIG mode the pins are inactive. -/
theorem otherEnableWritesChangeOnlyMden : Obligations.OtherEnableWritesChangeOnlyMden := by
  intro d s hopen hkeep
  refine ⟨exec_wrEn_keep hopen hkeep, fun hd t ht => ?_⟩
  rw [exec_wrEn_keep hopen hkeep] at ht
  cases ht
  exact inactive_config hd

/-- Settles O10: in CONFIG mode the lock lets each of the four writes through. -/
theorem lockedRegistersStoreInConfigMode : Obligations.LockedRegistersStoreInConfigMode := by
  intro d s hopen hconfig
  have accepted (r : Reg) : exec (r.writeInstr d) s = .next (s.accepted (written r d s.chan)) :=
    exec_writeInstr_open d hopen fun _ => hconfig
  exact ⟨accepted .pom, accepted .wfc, accepted .opl, accepted .dtr⟩

/-- Settles O11: in RUN mode the lock refuses each of the four writes. -/
theorem lockedRegistersRejectInRunMode : Obligations.LockedRegistersRejectInRunMode := by
  intro d s hopen hrun
  have refused (r : Reg) (hlocked : isLocked r = true) :
      exec (r.writeInstr d) s = .next (raiseBusError .locked s) :=
    exec_writeInstr_locked d hopen hlocked hrun
  exact ⟨refused .pom rfl, refused .wfc rfl, refused .opl rfl, refused .dtr rfl⟩

/-! ### Reads: the word of a register as a sum of powers of two -/

/-- Reduction to `n + m` bits keeps `n` bits above the lower `m`. -/
theorem mul_two_pow_add_mod {a b m : Nat} (n : Nat) (h : b < 2 ^ m) :
    (a * 2 ^ m + b) % 2 ^ (n + m) = a % 2 ^ n * 2 ^ m + b := by
  have low : (a * 2 ^ m + b) % 2 ^ m = b := by rw [Nat.mul_add_mod', Nat.mod_eq_of_lt h]
  have high : (a * 2 ^ m + b) / 2 ^ m = a := by
    rw [Nat.mul_comm, Nat.mul_add_div (Nat.two_pow_pos m), Nat.div_eq_of_lt h, Nat.add_zero]
  rw [Nat.add_comm n m, Nat.pow_add, Nat.mod_mul, low, high, Nat.add_comm, Nat.mul_comm]

/-- A field below a number shifts the number up by the field's width. -/
theorem ofNat_append {n m : Nat} (a : Nat) (y : BitVec m) :
    BitVec.ofNat n a ++ y = BitVec.ofNat (n + m) (a * 2 ^ m + y.toNat) := by
  refine BitVec.eq_of_toNat_eq ?_
  rw [BitVec.toNat_append, ← Nat.shiftLeft_add_eq_or_of_lt y.isLt, BitVec.toNat_ofNat, BitVec.toNat_ofNat,
    mul_two_pow_add_mod n y.isLt, Nat.shiftLeft_eq]

theorem enWord_eq (c : Channel) : c.enWord = BitVec.ofNat 32 c.mden.toNat := by
  rw [Channel.enWord, ofNat_append]
  simp

theorem pomWord_eq (c : Channel) : c.pomWord = BitVec.ofNat 32 (2 * c.lomd.toNat + c.upmd.toNat) := by
  simp only [Channel.pomWord, ofNat_append, BitVec.toNat_ofBool]
  congr 1
  omega

theorem wfcWord_eq (c : Channel) :
    c.wfcWord = BitVec.ofNat 32 (256 * c.dsyncs.toNat + 128 * c.dtcren.toNat + 64 * c.dtymd.toNat +
      16 * c.car.w.toNat + 4 * c.car.v.toNat + c.car.u.toNat) := by
  simp only [Channel.wfcWord, ofNat_append, BitVec.toNat_ofBool]
  congr 1
  omega

theorem oplWord_eq (c : Channel) :
    c.oplWord = BitVec.ofNat 32 (16 * c.psyncs.toNat + 4 * c.syncs.toNat + 2 * c.poll.toNat + c.polh.toNat) := by
  simp only [Channel.oplWord, ofNat_append, BitVec.toNat_ofBool]
  congr 1
  omega

/-- A read after a write to the register in CONFIG mode returns the word under the field mask (R73, R80). -/
theorem exec_readInstr_after_write {r : Reg} {s t : State} (v : Word) (hopen : s.gateOpen = true)
    (hconfig : s.chan.mden = false) (hstores : r ∉ storelessRegs) (h : exec (r.writeInstr v) s = .next t) :
    exec r.readInstr t = .next { t with response := .okayData (v &&& fieldMask r) } := by
  rw [exec_writeInstr_open v hopen fun _ => hconfig] at h
  cases h
  rw [exec_readInstr_open (s := s.accepted _) r hopen, accepted_chan, regWord_written v s.chan hstores]
  rfl

/-- A read after `RESET` returns the register's word of the reset table (R30). -/
theorem exec_readInstr_after_reset (r : Reg) {s t : State} (hopen : s.gateOpen = true)
    (h : exec .reset s = .next t) :
    exec r.readInstr t = .next { t with response := .okayData ((Channel.reset Config.latchRst).regWord r) } := by
  rw [exec_reset] at h
  cases h
  exact exec_readInstr_open r hopen

/-- Settles O12: the encoding is that of a word access (`decode_append`), the words are the sums above, and the
examples are a read after `RESET` and reads after a write. -/
theorem configurationReadsReturnTheirFields : Obligations.ConfigurationReadsReturnTheirFields := by
  refine ⟨fun data => ?encoding, fun s hopen => ?words,
    fun s t hopen => ⟨fun hreset => ?afterReset, ?afterWfc, ?afterOpl⟩⟩
  case encoding =>
    exact ⟨decode_append .en false data, decode_append .pom false data, decode_append .wfc false data,
      decode_append .opl false data, decode_append .dtr false data⟩
  case words =>
    rw [← enWord_eq, ← pomWord_eq, ← wfcWord_eq, ← oplWord_eq]
    have returned (r : Reg) : exec r.readInstr s = .next (s.returning (s.chan.regWord r)) :=
      exec_readInstr_open r hopen
    exact ⟨returned .en, returned .pom, returned .wfc, returned .opl, returned .dtr⟩
  case afterReset =>
    exact ⟨exec_readInstr_after_reset .en hopen hreset, exec_readInstr_after_reset .pom hopen hreset,
      exec_readInstr_after_reset .dtr hopen hreset⟩
  case afterWfc =>
    exact fun hconfig => exec_readInstr_after_write (r := .wfc) 0xFFFFFFFF hopen hconfig (by decide)
  case afterOpl =>
    exact fun hconfig => exec_readInstr_after_write (r := .opl) 0x27 hopen hconfig (by decide)

end Sys2Proof.Machine
end

section
/-! ## The protection registers: EMGCR, OVVCR, EMGREL, OVVREL, EMGSTA and OVVSTA (R101 to R104, R111 to R120) -/

namespace Sys2Proof.Machine

/-- A write to a register outside the configuration lock completes in either mode (R80, R81). -/
theorem exec_writeInstr_unlocked {r : Reg} {s : State} (v : Word) (hopen : s.gateOpen = true)
    (hunlocked : isLocked r = false) : exec (r.writeInstr v) s = .next (s.accepted (written r v s.chan)) :=
  exec_writeInstr_open v hopen fun hlocked => absurd hlocked (Bool.eq_false_iff.mp hunlocked)

theorem exec_writeControl_open (p : Path) (v : Word) {s : State} (hopen : s.gateOpen = true) :
    exec (writeControl p v) s = .next (s.accepted (s.chan.storeCr p v)) := by
  rw [← crReg_writeInstr, exec_writeInstr_unlocked v hopen (by cases p <;> rfl), written_crReg]

theorem exec_writeKey_open (p : Path) (v : Word) {s : State} (hopen : s.gateOpen = true) :
    exec (writeKey p v) s = .next (s.accepted (s.chan.keyStep p v)) := by
  rw [← relReg_writeInstr, exec_writeInstr_unlocked v hopen (by cases p <;> rfl), written_relReg]

/-- The word of a control register as a sum of powers of two (R68). -/
theorem crWord_eq (c : Channel) (p : Path) :
    c.crWord p = BitVec.ofNat 32 (16 * (c.filt.get p).toNat + 4 * (c.resp.get p).toNat +
      2 * (c.inpol.get p).toNat + (c.pen.get p).toNat) := by
  simp only [Channel.crWord, ofNat_append, BitVec.toNat_ofBool]
  congr 1
  omega

/-- Bit 0 of a control word is the enable of the path (R68). -/
theorem crWord_getElem_zero (c : Channel) (p : Path) : (c.crWord p)[0] = c.pen.get p := by
  rw [Channel.crWord, BitVec.getElem_append, dif_pos (by decide), BitVec.getElem_ofBool]

theorem staWord_eq (c : Channel) (p : Path) : c.staWord p = BitVec.ofNat 32 (c.latch.get p).toNat := by
  rw [Channel.staWord, ofNat_append]
  simp

/-- A key write case by case, with what each case makes of the channel (R112, R113). -/
theorem keyStep_eq (c : Channel) (p : Path) (v : Word) : c.keyStep p v =
    if v = Config.key1 then { c with keyst := c.keyst.set p .k1 }
    else if v = Config.key2 ∧ c.keyst.get p = .k1 ∧ c.latch.get p = true then
      { c with keyst := c.keyst.set p .idle, latch := c.latch.set p false, pen := c.pen.set p false }
    else { c with keyst := c.keyst.set p .idle } := by
  obtain ⟨rfl, h⟩ | ⟨rfl, hk1, hset, h⟩ | ⟨rfl, hk1, hclear, h⟩ | ⟨hkey1, hkey2, h⟩ := keyStep_cases c p v
  · rw [h, if_pos rfl]
    rfl
  · rw [h, if_neg key1_ne_key2.symm, if_pos ⟨rfl, hk1, hset⟩]
  · rw [h, if_neg key1_ne_key2.symm, if_neg (by simp [hclear])]
    rfl
  · rw [h, if_neg hkey1, if_neg fun ⟨hv, hk1, _⟩ => hkey2 ⟨hv, hk1⟩]
    rfl

/-- Settles O15: the control write of each path is accepted in either mode. -/
theorem controlWritesStoreThePathSettings : Obligations.ControlWritesStoreThePathSettings :=
  fun d _ hopen => ⟨exec_writeControl_open .emg d hopen, exec_writeControl_open .ovv d hopen⟩

/-- Settles O16: the words are the sums of `crWord_eq`; bit 0 is the enable, which the release clears. -/
theorem controlReadsReturnThePathSettings : Obligations.ControlReadsReturnThePathSettings := by
  refine ⟨fun data => ?encoding, fun s hopen => ?words, fun s t hopen => ⟨fun hreset => ?afterReset, ?afterRelease⟩⟩
  case encoding => exact ⟨decode_append .emgcr false data, decode_append .ovvcr false data⟩
  case words =>
    have returned (p : Path) : exec (readControl p) s = .next (s.returning (s.chan.crWord p)) := by
      rw [← crReg_readInstr, exec_readInstr_open _ hopen, regWord_crReg]
    simp only [crWord_eq] at returned
    exact ⟨returned .emg, returned .ovv⟩
  case afterReset =>
    exact ⟨exec_readInstr_after_reset .emgcr hopen hreset, exec_readInstr_after_reset .ovvcr hopen hreset⟩
  case afterRelease =>
    intro hset hk1 hrelease
    have hkey : exec (.wrEmgrel 0xA5) s = .next (s.accepted (s.chan.keyStep .emg Config.key2)) :=
      exec_writeKey_open .emg Config.key2 hopen
    rw [hkey] at hrelease
    cases hrelease
    obtain ⟨-, -, hdisarmed⟩ := keyStep_key2_released (p := .emg) hk1
    exact ⟨_, exec_readInstr_open (s := s.accepted _) .emgcr hopen,
      (crWord_getElem_zero _ .emg).trans (hdisarmed hset)⟩

/-- Settles O17: `keyStep_eq` for each path. -/
theorem keyWritesStepTheSequencer : Obligations.KeyWritesStepTheSequencer := by
  intro v s hopen
  have stepped (p : Path) := exec_writeKey_open p v hopen
  simp only [keyStep_eq] at stepped
  exact ⟨stepped .emg, stepped .ovv⟩

/-- Settles O18: the read leaves the sequencer at `K1`, from which the second key releases. -/
theorem keyPortReadsReturnZero : Obligations.KeyPortReadsReturnZero := by
  refine ⟨fun data => ?encoding, fun s hopen => ?words, fun s t u hopen hk1 hread hkey => ?between⟩
  case encoding => exact ⟨decode_append .emgrel false data, decode_append .ovvrel false data⟩
  case words => exact ⟨exec_readInstr_open .emgrel hopen, exec_readInstr_open .ovvrel hopen⟩
  case between =>
    have hunchanged : exec .rdEmgrel s = .next (s.returning 0) := exec_readInstr_open .emgrel hopen
    rw [hunchanged] at hread
    cases hread
    have hsecond : exec (.wrEmgrel 0xA5) (s.returning 0) =
        .next ((s.returning 0).accepted (s.chan.keyStep .emg Config.key2)) :=
      exec_writeKey_open .emg Config.key2 (s := s.returning 0) hopen
    rw [hsecond] at hkey
    cases hkey
    obtain ⟨hlatch, hidle, -⟩ := keyStep_key2_released (p := .emg) hk1
    exact ⟨hlatch, hidle⟩

/-- A status read returns the latch of its path in bit 0 (R118, R120). -/
theorem exec_getProtectionStatus_open (p : Path) {s : State} (hopen : s.gateOpen = true) :
    exec (getProtectionStatus p) s =
      .next { s with response := .okayData (BitVec.ofNat 32 (s.chan.latch.get p).toNat) } := by
  rw [← staReg_readInstr, exec_readInstr_open _ hopen, regWord_staReg, staWord_eq]
  rfl

/-- Settles O19: the write of a status register makes the same channel of every channel. -/
theorem statusWritesAreIgnored : Obligations.StatusWritesAreIgnored := by
  have ignored (d : Word) {s : State} (hopen : s.gateOpen = true) :
      exec (.wrEmgsta d) s = .next { s with response := .okay } ∧
        exec (.wrOvvsta d) s = .next { s with response := .okay } :=
    ⟨exec_writeInstr_unlocked (r := .emgsta) d hopen rfl, exec_writeInstr_unlocked (r := .ovvsta) d hopen rfl⟩
  refine ⟨fun data => ?encoding, fun d s => ignored d, fun s t hopen hset hwrite => ?readBack⟩
  case encoding => exact ⟨decode_append .emgsta true data, decode_append .ovvsta true data⟩
  case readBack =>
    obtain ⟨hignored, -⟩ := ignored 0x0 hopen
    rw [hignored] at hwrite
    cases hwrite
    have hread := exec_getProtectionStatus_open .emg (s := { s with response := .okay }) hopen
    rw [PerPath.get_emg, hset] at hread
    exact hread

/-- Settles O20: each read returns the latch of its path, which for a tripped path makes the word 1. -/
theorem statusReadsReturnTheLatch : Obligations.StatusReadsReturnTheLatch := by
  refine ⟨fun data => ?encoding, fun s hopen => ?words⟩
  case encoding => exact ⟨decode_append .emgsta false data, decode_append .ovvsta false data⟩
  case words =>
    have hovv := exec_getProtectionStatus_open .ovv hopen
    refine ⟨exec_getProtectionStatus_open .emg hopen, hovv, fun hset => ?_⟩
    rw [PerPath.get_ovv, hset] at hovv
    exact hovv

end Sys2Proof.Machine
end

section
/-! ## The trip filter and latch of a path over one clock edge and over a run (R105 to R108) -/

namespace Sys2Proof.Machine

theorem active_iff {c : Channel} {p : Path} {level : Bool} :
    c.active p level = true ↔ c.pen.get p = true ∧ level = c.inpol.get p := by
  rw [Channel.active, Bool.and_eq_true, beq_iff_eq]

theorem filterLatch_eq_true_iff {active latch : Bool} {filt fcnt : FilterCount} :
    filterLatch active filt fcnt latch = true ↔ latch = true ∨ (active = true ∧ filt.toNat ≤ fcnt.toNat) := by
  rw [filterLatch, Bool.or_eq_true, Bool.and_eq_true, decide_eq_true_eq, BitVec.le_def]

/-- An active sample with the count reached sets the latch and keeps the count. -/
theorem filter_reached {filt fcnt : FilterCount} (latch : Bool) (h : filt.toNat ≤ fcnt.toNat) :
    filterLatch true filt fcnt latch = true ∧ filterCount true filt fcnt = fcnt :=
  ⟨filterLatch_eq_true_iff.mpr (.inr ⟨rfl, h⟩), if_pos (BitVec.le_def.mpr h)⟩

/-- An active sample below the count leaves the latch and counts up, which does not overflow. -/
theorem filter_below {filt fcnt : FilterCount} (latch : Bool) (h : fcnt.toNat < filt.toNat) :
    filterLatch true filt fcnt latch = latch ∧ (filterCount true filt fcnt).toNat = fcnt.toNat + 1 := by
  have hle : ¬ filt ≤ fcnt := fun hle => absurd (BitVec.le_def.mp hle) (Nat.not_le.mpr h)
  refine ⟨by simp [filterLatch, hle], ?_⟩
  rw [filterCount, if_pos rfl, if_neg hle]
  bv_omega

/-- An inactive sample leaves the latch and restarts the count. -/
theorem filter_inactive (filt fcnt : FilterCount) (latch : Bool) :
    filterLatch false filt fcnt latch = latch ∧ filterCount false filt fcnt = 0 :=
  ⟨Bool.or_false latch, rfl⟩

/-- T1 of one path, in both modes (R107, R150). -/
theorem tick_latch_fcnt_get (c : Channel) (e o : Bool) (y : SyncLevels) (p : Path) :
    (c.tick e o y).latch.get p =
        filterLatch (c.active p (tripLevel e o p)) (c.filt.get p) (c.fcnt.get p) (c.latch.get p) ∧
      (c.tick e o y).fcnt.get p =
        filterCount (c.active p (tripLevel e o p)) (c.filt.get p) (c.fcnt.get p) := by
  rw [tick_latch, tick_fcnt, t1_latch_get, t1_fcnt_get]
  exact ⟨rfl, rfl⟩

/-- Settles O21: the three cases of the filter. -/
theorem tickRunsTheTripFilter : Obligations.TickRunsTheTripFilter := by
  intro e o y s hopen
  refine ⟨_, exec_tick_open e o y hopen, ?_⟩
  intro p level active count
  have hlevel : level = tripLevel e o p := by cases p <;> rfl
  have hactive : s.chan.active p (tripLevel e o p) = true ↔ active := by rw [active_iff, ← hlevel]
  obtain ⟨hlatch, hfcnt⟩ := tick_latch_fcnt_get s.chan e o y p
  rw [quietly_chan, hlatch, hfcnt]
  refine ⟨fun h hreached => ?reached, fun h hbelow => ?below, fun h => ?inactive⟩
  case reached =>
    obtain ⟨hset, hkept⟩ := filter_reached (s.chan.latch.get p) hreached
    rw [hactive.mpr h, hkept]
    exact ⟨hset, rfl⟩
  case below =>
    rw [hactive.mpr h]
    exact filter_below _ hbelow
  case inactive =>
    obtain ⟨hkept, hzero⟩ := filter_inactive (s.chan.filt.get p) (s.chan.fcnt.get p) (s.chan.latch.get p)
    rw [Bool.eq_false_iff.mpr (mt hactive.mp h), hkept, hzero]
    exact ⟨rfl, rfl⟩

/-- Settles O41: of the four things a step can do (`step_chan`), a register write sets no latch, `RESET` loads
`LATCH_RST`, and a clock edge sets one as the filter says. -/
theorem latchIsSetOnlyByATripOrReset : Obligations.LatchIsSetOnlyByATripOrReset := by
  intro p s t hstep hclear hset
  obtain hsame | ⟨hreset, htable⟩ | ⟨e, o, y, hedge, hopen, htick⟩ | ⟨q, v, -, -, -, hwritten⟩ :=
    step_chan hstep
  · rw [hsame, hclear] at hset
    cases hset
  · rw [htable, reset_latch_get] at hset
    exact .inl ⟨hreset, hset⟩
  · rw [htick, tick_latch, t1_latch_get, hclear, filterLatch_eq_true_iff, active_iff] at hset
    obtain ⟨⟨hpen, hlevel⟩, hcount⟩ := hset.resolve_left Bool.false_ne_true
    exact .inr ⟨e, o, y, hedge, hopen, hpen, hlevel, hcount⟩
  · obtain ⟨hwrite, -, -⟩ := written_latch_pgate q v s.chan
    rw [hwrite p (hwritten ▸ hset)] at hclear
    cases hclear

theorem ticks_latch_get_of_set {c : Channel} {p : Path} (levels : List TickLevels) (h : c.latch.get p = true) :
    (c.ticks levels).latch.get p = true := by
  induction levels generalizing c with
  | nil => exact h
  | cons l rest ih => exact ih (tick_latch_get_of_set l.emgIn l.ovvIn l.syncIn h)

/-- R106 from any count up to `FILT`: active samples count on from it. -/
theorem ticks_latch_get_of_active {p : Path} {c : Channel} {levels : List TickLevels}
    (hpen : c.pen.get p = true) (hcount : (c.fcnt.get p).toNat ≤ (c.filt.get p).toNat)
    (hclear : c.latch.get p = false)
    (hlevels : ∀ l ∈ levels, tripLevel l.emgIn l.ovvIn p = c.inpol.get p) :
    (c.ticks levels).latch.get p =
      decide ((c.filt.get p).toNat + 1 ≤ (c.fcnt.get p).toNat + levels.length) := by
  induction levels generalizing c with
  | nil => rw [Channel.ticks, hclear, eq_comm, decide_eq_false_iff_not, List.length_nil]; omega
  | cons l rest ih =>
    have hactive := active_iff.mpr ⟨hpen, hlevels l (.head _)⟩
    obtain ⟨hlatch, hfcnt⟩ := tick_latch_fcnt_get c l.emgIn l.ovvIn l.syncIn p
    rw [hactive] at hlatch hfcnt
    rw [Channel.ticks, List.length_cons]
    obtain hbelow | hreached := Nat.lt_or_ge (c.fcnt.get p).toNat (c.filt.get p).toNat
    · obtain ⟨hkept, hup⟩ := filter_below (c.latch.get p) hbelow
      have hrest := ih (c := c.tick l.emgIn l.ovvIn l.syncIn) (by rwa [tick_pen])
        (by rw [hfcnt, hup, tick_filt]; exact hbelow) (by rw [hlatch, hkept, hclear])
        (fun m hm => by rw [tick_inpol]; exact hlevels m (.tail _ hm))
      rw [hrest, tick_filt, hfcnt, hup, Nat.add_assoc, Nat.add_comm 1]
    · obtain ⟨hset, -⟩ := filter_reached (c.latch.get p) hreached
      rw [ticks_latch_get_of_set rest (hlatch.trans hset), eq_comm, decide_eq_true_eq]
      omega

/-- Settles O37: a clear count is a count up to `FILT`. -/
theorem filterLatchesAfterItsCount : Obligations.FilterLatchesAfterItsCount := by
  intro p c levels hpen hzero hclear hlevels
  have hcount : (c.fcnt.get p).toNat = 0 := by rw [hzero]; rfl
  rw [ticks_latch_get_of_active hpen (hcount ▸ Nat.zero_le _) hclear hlevels, hcount, Nat.zero_add]

/-- Settles O27: with the gate open the five elements are frozen in CONFIG mode and `runSteps` of the channel in RUN
mode, which reads no input level. -/
theorem tripsDoNotDisturbTheRun : Obligations.TripsDoNotDisturbTheRun := by
  intro e o e' o' y y' s t u ht hu
  cases hgate : s.gateOpen with
  | false =>
    rw [exec_tick_closed _ _ _ hgate] at ht hu
    cases ht
    cases hu
    exact ⟨rfl, rfl, rfl, rfl, rfl⟩
  | true =>
    rw [exec_tick_open _ _ _ hgate] at ht hu
    cases ht
    cases hu
    simp only [quietly_chan]
    cases hmode : s.chan.mden with
    | false =>
      simp only [tick_phase_config _ _ _ _ hmode, tick_cmpa_config _ _ _ _ hmode, tick_hold_config _ _ _ _ hmode,
        tick_side_config _ _ _ _ hmode, tick_cnt_config _ _ _ _ hmode, and_self]
    | true =>
      simp only [tick_phase_run _ _ _ _ hmode, tick_cmpa_run _ _ _ _ hmode, tick_hold_run _ _ _ _ hmode,
        tick_side_run _ _ _ _ hmode, tick_cnt_run _ _ _ _ hmode, and_self]

end Sys2Proof.Machine
end

section
/-! ## The protection-output buffer and the pins it forces (R108 to R110, R139, R160) -/

namespace Sys2Proof.Machine

theorem forcesUpper_iff {resp : Code} : forcesUpper resp = true ↔ resp ≠ 0b10#2 := by
  revert resp; decide

theorem forcesLower_iff {resp : Code} : forcesLower resp = true ↔ resp ≠ 0b01#2 := by
  revert resp; decide

/-- A latch asks for a group when its response mode names the group (R109). -/
theorem want_iff (c : Channel) :
    (c.wantU = true ↔ ∃ p, c.latch.get p = true ∧ c.resp.get p ≠ 0b10#2) ∧
    (c.wantL = true ↔ ∃ p, c.latch.get p = true ∧ c.resp.get p ≠ 0b01#2) := by
  have of_either : ∀ P : Path → Prop, (∃ p, P p) ↔ P .emg ∨ P .ovv := fun P =>
    ⟨fun ⟨p, hp⟩ => by cases p; exacts [.inl hp, .inr hp], fun h => h.elim (⟨_, ·⟩) (⟨_, ·⟩)⟩
  simp only [of_either, ← forcesUpper_iff, ← forcesLower_iff, Channel.wantU, Channel.wantL, Bool.or_eq_true,
    Bool.and_eq_true, PerPath.get_emg, PerPath.get_ovv, and_self]

/-- The timing selector, code by code (R139). -/
theorem sel_iff {m : Code} {centre finish : Bool} : sel m centre finish = true ↔
    m = 0b00#2 ∨ (m = 0b01#2 ∧ centre = true) ∨ (m = 0b10#2 ∧ finish = true) ∨
      (m = 0b11#2 ∧ (centre = true ∨ finish = true)) := by
  revert m centre finish; decide

theorem syncPulse_iff {syncs : Code} {y : SyncLevels} : syncPulse syncs y = true ↔
    (syncs = 0b01#2 ∧ y[0] = true) ∨ (syncs = 0b10#2 ∧ y[1] = true) ∨ (syncs = 0b11#2 ∧ y[2] = true) := by
  revert syncs y; decide

theorem carrierSum_eq (c : Channel) : c.carrierSum = c.phase.toNat + c.rate.toNat % 2 ^ 24 := by
  rw [Channel.carrierSum, rateStep_toNat]

/-- The two carrier events as numbers (R133). -/
theorem evEnd_iff {c : Channel} : c.evEnd = true ↔ 2 ^ 24 ≤ c.phase.toNat + c.rate.toNat % 2 ^ 24 := by
  rw [Channel.evEnd, decide_eq_true_eq, carrierSum_eq]

theorem evCtr_iff {c : Channel} : c.evCtr = true ↔
    c.phase.toNat < 2 ^ 23 ∧ 2 ^ 23 ≤ c.phase.toNat + c.rate.toNat % 2 ^ 24 := by
  rw [Channel.evCtr, Bool.and_eq_true, decide_eq_true_eq, decide_eq_true_eq, carrierSum_eq]
  exact Iff.rfl

/-- The buffer after a clock edge of either mode: CONFIG mode is itself an update event (R110). -/
theorem tick_pgate_iff (c : Channel) (e o : Bool) (y : SyncLevels) :
    ((c.tick e o y).pgateU = true ↔
      (c.tick e o y).wantU = true ∨ (c.pgateU = true ∧ ¬c.bufferUpdate c.evCtr c.evEnd y = true)) ∧
    ((c.tick e o y).pgateL = true ↔
      (c.tick e o y).wantL = true ∨ (c.pgateL = true ∧ ¬c.bufferUpdate c.evCtr c.evEnd y = true)) := by
  obtain ⟨upd, hconfig, hrun, hupper, hlower⟩ := tick_pgate c e o y
  have hupd : upd = c.bufferUpdate c.evCtr c.evEnd y := by
    cases hmode : c.mden with
    | false => simp [hconfig hmode, Channel.bufferUpdate, hmode]
    | true => exact hrun hmode
  simp only [hupper, hlower, hupd, Bool.or_eq_true, Bool.and_eq_true, Bool.not_eq_true', Bool.not_eq_true, and_self]

/-- Settles O25: what forces a group is `want_iff`; what releases it is the mode, the selector (`sel_iff`) at the
carrier events, or the synchronisation input. -/
theorem tickUpdatesTheProtectionBuffer : Obligations.TickUpdatesTheProtectionBuffer := by
  intro e o y s hopen
  refine ⟨_, exec_tick_open e o y hopen, ?_⟩
  intro c sum finish centre update wantU wantL
  have hupdate : c.bufferUpdate c.evCtr c.evEnd y = true ↔ update := by
    simp only [Channel.bufferUpdate, Bool.or_eq_true, Bool.not_eq_true', sel_iff, syncPulse_iff, evEnd_iff,
      evCtr_iff, or_assoc]
    rfl
  obtain ⟨hupper, hlower⟩ := tick_pgate_iff c e o y
  obtain ⟨hwantU, hwantL⟩ := want_iff (c.tick e o y)
  rw [hwantU, hupdate, tick_resp] at hupper
  rw [hwantL, hupdate, tick_resp] at hlower
  exact ⟨hupper, hlower⟩

/-- A group the buffer forces off is at its inactive level, in either mode (R159, R160). -/
theorem inactive_of_pgate (c : Channel) :
    (c.pgateU = true → c.upperInactive) ∧ (c.pgateL = true → c.lowerInactive) := by
  refine ⟨fun h => ?upper, fun h => ?lower⟩
  case upper =>
    have pin : ∀ x, c.upperPin x = !c.polh := fun x => by
      cases hpol : c.polh <;> simp [Channel.upperPin, Channel.upperOn, h, hpol]
    exact ⟨pin .u, pin .v, pin .w⟩
  case lower =>
    have pin : ∀ x, c.lowerPin x = !c.poll := fun x => by
      cases hpol : c.poll <;> simp [Channel.lowerPin, Channel.lowerOn, h, hpol]
    exact ⟨pin .u, pin .v, pin .w⟩

/-- Settles O49: the latch asks for the group (`want_iff`), the edge forces what is asked for (`tick_forces`), and a
forced group is inactive. -/
theorem latchedPathForcesItsGroupsOff : Obligations.LatchedPathForcesItsGroupsOff := by
  intro e o y s t p hopen ht hlatch
  rw [exec_tick_open e o y hopen] at ht
  cases ht
  obtain ⟨hwantU, hwantL⟩ := want_iff (s.chan.tick e o y)
  obtain ⟨hforceU, hforceL⟩ := tick_forces s.chan e o y
  obtain ⟨hupper, hlower⟩ := inactive_of_pgate (s.chan.tick e o y)
  exact ⟨fun hnames => hupper (hforceU (hwantU.mpr ⟨p, hlatch, hnames⟩)),
    fun hnames => hlower (hforceL (hwantL.mpr ⟨p, hlatch, hnames⟩))⟩

end Sys2Proof.Machine
end

section
/-! ## The states of a path and how each is entered (R100) -/

namespace Sys2Proof.Machine

/-- A path is exactly one of armed, tripped and released; latched and disarmed is tripped with `PEN = 0`. -/
theorem inPathState_partition (c : Channel) (p : Path) :
    (c.inPathState p .tripped = true ↔ c.inPathState p .armed = false ∧ c.inPathState p .released = false) ∧
    ¬(c.inPathState p .armed = true ∧ c.inPathState p .released = true) ∧
    (c.inPathState p .latchedDisarmed = true ↔ c.inPathState p .tripped = true ∧ c.pen.get p = false) := by
  rw [inPathState_tripped, inPathState_armed, inPathState_released, inPathState_latchedDisarmed]
  cases c.latch.get p <;> cases c.pen.get p <;> decide

theorem inPathState_unconfigured_reset (p : Path) :
    (Channel.reset Config.latchRst).inPathState p .unconfigured = true := by
  cases p <;> simp [Channel.inPathState, Channel.reset]

/-- A control write moves the enable of its path and keeps its latch (R101, R103). -/
theorem inPathState_storeCr (c : Channel) (p : Path) (d : Word) :
    (c.storeCr p d).inPathState p .tripped = c.inPathState p .tripped ∧
    (c.inPathState p .tripped = false → d[0] = true → (c.storeCr p d).inPathState p .armed = true) ∧
    (c.inPathState p .tripped = false → d[0] = false → (c.storeCr p d).inPathState p .released = true) ∧
    (c.inPathState p .tripped = true → d[0] = false →
      (c.storeCr p d).inPathState p .latchedDisarmed = true) := by
  rw [inPathState_tripped, inPathState_tripped, inPathState_armed, inPathState_released,
    inPathState_latchedDisarmed, storeCr_latch, storeCr_pen, PerPath.get_set_same]
  exact ⟨rfl, fun hlatch hd => by rw [hlatch, hd]; rfl, fun hlatch hd => by rw [hlatch, hd]; rfl,
    fun hlatch hd => by rw [hlatch, hd]; rfl⟩

/-- The second key at `K1` releases a tripped path (R113). -/
theorem inPathState_keyStep_key2 {c : Channel} {p : Path} (htripped : c.inPathState p .tripped = true)
    (hk1 : c.keyst.get p = .k1) : (c.keyStep p Config.key2).inPathState p .released = true := by
  obtain ⟨hlatch, -, hdisarmed⟩ := keyStep_key2_released hk1
  rw [inPathState_released, hlatch, hdisarmed htripped]
  rfl

/-- Settles O56: each entry of the table is the step that makes it, with what the step makes of the path. -/
theorem pathStatesAreEnteredAsTabled : Obligations.PathStatesAreEnteredAsTabled := by
  intro p s hopen
  refine ⟨inPathState_partition s.chan p, ⟨_, exec_reset s, inPathState_unconfigured_reset p⟩,
    fun d => ⟨_, exec_writeControl_open p d hopen, inPathState_storeCr s.chan p d⟩,
    fun e o y harmed hlevel hcount => ⟨_, exec_tick_open e o y hopen, ?trip⟩,
    fun htripped hk1 => ⟨_, exec_writeKey_open p _ hopen, inPathState_keyStep_key2 htripped hk1⟩⟩
  case trip =>
    obtain ⟨hpen, -⟩ := Bool.and_eq_true_iff.mp harmed
    obtain ⟨hlatch, -⟩ := tick_latch_fcnt_get s.chan e o y p
    exact hlatch.trans (filterLatch_eq_true_iff.mpr (.inr ⟨active_iff.mpr ⟨hpen, hlevel⟩, hcount⟩))

end Sys2Proof.Machine
end

section
/-! ## A latch over a run of requests (R108, R112, R113, R121) -/

namespace Sys2Proof.Machine

/-- A write to the path's REL register heads the keys written. -/
theorem keysWritten_cons_key {p : Path} {r : Request} {v : Word} (rest : List Request)
    (h : decodeRequest r = some (writeKey p v)) : keysWritten p (r :: rest) = v :: keysWritten p rest := by
  refine List.filterMap_cons_some ?_
  cases p <;> rw [h] <;> rfl

/-- A request that is no write to the path's REL register adds no key. -/
theorem keysWritten_cons_other {p : Path} {r : Request} (rest : List Request)
    (h : ∀ v, decodeRequest r ≠ some (writeKey p v)) : keysWritten p (r :: rest) = keysWritten p rest := by
  refine List.filterMap_cons_none ?_
  split
  next v hdecoded => exact absurd hdecoded (h v)
  next v hdecoded => exact absurd hdecoded (h v)
  next => rfl

/-- The keys the sequencer has accepted towards a release (R24). -/
def keysHeld : KeyState → List Word
  | .idle => []
  | .k1 => [Config.key1]

/-- A key write that does not complete a sequence keeps a set latch, and the keys then held are the last of those
held before and the one written. -/
theorem keyStep_keeps_latch {c : Channel} {p : Path} {v : Word} (hset : c.latch.get p = true)
    (h : ¬(c.keyst.get p = .k1 ∧ v = Config.key2)) :
    (c.keyStep p v).latch.get p = true ∧
      keysHeld ((c.keyStep p v).keyst.get p) <:+ keysHeld (c.keyst.get p) ++ [v] := by
  obtain ⟨rfl, hkey⟩ | ⟨hv, hk1, -⟩ | ⟨hv, hk1, -⟩ | ⟨-, -, hkey⟩ := keyStep_cases c p v
  · rw [hkey]
    exact ⟨hset, by simp [keysHeld]⟩
  · exact absurd ⟨hk1, hv⟩ h
  · exact absurd ⟨hk1, hv⟩ h
  · rw [hkey]
    exact ⟨hset, by simp [keysHeld]⟩

/-- R121 with the sequencer in any state: a set latch stays set while the keys held, followed by those still to be
written, contain no `KEY1` followed by `KEY2`. -/
theorem latch_serveAll {p : Path} {rs : List Request} {s t : State} (hopen : s.gateOpen = true)
    (hset : s.chan.latch.get p = true) (hrs : ∀ r ∈ rs, r ≠ .reset ∧ ∀ b, r ≠ .clkGate b)
    (hkeys : ¬([Config.key1, Config.key2] <:+: keysHeld (s.chan.keyst.get p) ++ keysWritten p rs))
    (h : serveAll rs s = .next t) : t.chan.latch.get p = true := by
  induction rs generalizing s with
  | nil =>
    cases h
    exact hset
  | cons r rest ih =>
    obtain ⟨u, hserve, -, hgate⟩ := serve_next r s
    obtain ⟨hreset, hnoGate⟩ := hrs r (.head _)
    have hopenAfter : u.gateOpen = true := (hgate hnoGate).trans hopen
    have hrest : ∀ r ∈ rest, r ≠ .reset ∧ ∀ b, r ≠ .clkGate b := fun q hq => hrs q (.tail _ hq)
    rw [serveAll_cons, hserve, andThen_next] at h
    by_cases hkey : ∃ v, decodeRequest r = some (writeKey p v)
    case pos =>
      obtain ⟨v, hdecoded⟩ := hkey
      rw [serve_decoded hdecoded, exec_writeKey_open p v hopen] at hserve
      cases hserve
      rw [keysWritten_cons_key rest hdecoded, List.append_cons] at hkeys
      have hincomplete : ¬(s.chan.keyst.get p = .k1 ∧ v = Config.key2) := by
        rintro ⟨hk1, rfl⟩
        rw [hk1] at hkeys
        exact hkeys ⟨[], keysWritten p rest, rfl⟩
      obtain ⟨hlatch, hheld⟩ := keyStep_keeps_latch hset hincomplete
      refine ih hopenAfter hlatch hrest (fun hcomplete => hkeys ?_) h
      obtain ⟨before, hbefore⟩ := hheld
      rw [← hbefore, List.append_assoc]
      exact hcomplete.trans (List.suffix_append _ _).isInfix
    case neg =>
      have hother : ∀ v, decodeRequest r ≠ some (writeKey p v) := fun v hv => hkey ⟨v, hv⟩
      obtain ⟨hkeyst, hlatch⟩ := serve_keyst_latch hreset hother hserve
      refine ih hopenAfter (hlatch hset) hrest ?_ h
      rwa [hkeyst, ← keysWritten_cons_other rest hother]

/-- Settles O42: an idle sequencer holds no key, so the keys written are all of `latch_serveAll`'s. -/
theorem latchPersistsWithoutTheKeys : Obligations.LatchPersistsWithoutTheKeys := by
  intro p rs s t hopen hset hidle hrs hkeys h
  refine latch_serveAll hopen hset hrs ?_ h
  rwa [hidle]

end Sys2Proof.Machine
end

section
/-! ## The two paths do not interact (R100, R112, R177) -/

namespace Sys2Proof.Machine

section SamePath

variable {p : Path} {c d : Channel}

theorem SamePath.refl (p : Path) (c : Channel) : SamePath p c c := by constructor <;> rfl

theorem SamePath.symm (h : SamePath p c d) : SamePath p d c := by
  obtain ⟨hpen, hinpol, hresp, hfilt, hlatch, hkeyst, hfcnt⟩ := h
  exact ⟨hpen.symm, hinpol.symm, hresp.symm, hfilt.symm, hlatch.symm, hkeyst.symm, hfcnt.symm⟩

theorem SamePath.trans {b : Channel} (h : SamePath p b c) (h' : SamePath p c d) : SamePath p b d := by
  obtain ⟨hpen, hinpol, hresp, hfilt, hlatch, hkeyst, hfcnt⟩ := h'
  exact ⟨h.pen.trans hpen, h.inpol.trans hinpol, h.resp.trans hresp, h.filt.trans hfilt,
    h.latch.trans hlatch, h.keyst.trans hkeyst, h.fcnt.trans hfcnt⟩

/-- T1 of a path reads that path's elements and its own input level (R105, R107). -/
theorem samePath_tick (h : SamePath p c d) (e o : Bool) (y : SyncLevels) :
    SamePath p (c.tick e o y) (d.tick e o y) := by
  obtain ⟨hpen, hinpol, hresp, hfilt, hlatch, hkeyst, hfcnt⟩ := h
  constructor <;> simp [Channel.active, *]

/-- A release clears the latch and the enable of its path according to the latch of its path (R113). -/
theorem samePath_release (h : SamePath p c d) : SamePath p (c.release p) (d.release p) := by
  obtain ⟨hpen, hinpol, hresp, hfilt, hlatch, hkeyst, hfcnt⟩ := h
  cases hd : d.latch.get p with
  | false =>
    rw [release_clear hd, release_clear (hlatch.trans hd)]
    exact ⟨hpen, hinpol, hresp, hfilt, hlatch, hkeyst, hfcnt⟩
  | true =>
    rw [release_set hd, release_set (hlatch.trans hd)]
    constructor <;> simp [*]

theorem samePath_withKey (h : SamePath p c d) (k : KeyState) : SamePath p (c.withKey p k) (d.withKey p k) := by
  obtain ⟨hpen, hinpol, hresp, hfilt, hlatch, hkeyst, hfcnt⟩ := h
  constructor <;> simp [*]

/-- A key written to the path's own REL register acts according to the sequencer and the latch of the path. -/
theorem samePath_keyStep (h : SamePath p c d) (v : Word) : SamePath p (c.keyStep p v) (d.keyStep p v) := by
  by_cases hkey1 : v = Config.key1
  · rw [hkey1, keyStep_key1, keyStep_key1]
    exact samePath_withKey h .k1
  by_cases hkey2 : v = Config.key2 ∧ d.keyst.get p = .k1
  · obtain ⟨rfl, hk1⟩ := hkey2
    rw [keyStep_key2 hk1, keyStep_key2 (h.keyst.trans hk1)]
    exact samePath_release (samePath_withKey h .idle)
  · rw [keyStep_other hkey1 hkey2, keyStep_other hkey1 (h.keyst ▸ hkey2)]
    exact samePath_withKey h .idle

/-- A write to a path's own control register overwrites its four settings (R101, R103). -/
theorem samePath_storeCr (h : SamePath p c d) (v : Word) : SamePath p (c.storeCr p v) (d.storeCr p v) := by
  obtain ⟨hpen, hinpol, hresp, hfilt, hlatch, hkeyst, hfcnt⟩ := h
  constructor <;> simp [*]

/-- A write to any register that is neither the path's control register nor its REL register leaves the path
alone. -/
theorem samePath_written_of_ne {q : Reg} (v : Word) (c : Channel) (hcr : q ≠ crReg p) (hrel : q ≠ relReg p) :
    SamePath p c (written q v c) := by
  have of_storeCr : ∀ r, p ≠ r → SamePath p c (c.storeCr r v) := fun r hne => by
    constructor <;> simp [PerPath.get_set_ne _ _ hne]
  cases q with
  | en => obtain ⟨-, -, hen⟩ | ⟨-, hen⟩ := storeEn_cases c v <;> rw [written, hen] <;> constructor <;> rfl
  | emgcr => exact of_storeCr .emg (by rintro rfl; exact hcr rfl)
  | ovvcr => exact of_storeCr .ovv (by rintro rfl; exact hcr rfl)
  | emgrel => exact samePath_keyStep_of_ne c v (by rintro rfl; exact hrel rfl)
  | ovvrel => exact samePath_keyStep_of_ne c v (by rintro rfl; exact hrel rfl)
  | _ => constructor <;> rfl

/-- What an accepted write leaves in a path depends on that path alone. -/
theorem samePath_written (h : SamePath p c d) (q : Reg) (v : Word) :
    SamePath p (written q v c) (written q v d) := by
  by_cases hcr : q = crReg p
  · rw [hcr, written_crReg, written_crReg]
    exact samePath_storeCr h v
  by_cases hrel : q = relReg p
  · rw [hrel, written_relReg, written_relReg]
    exact samePath_keyStep h v
  exact (samePath_written_of_ne v c hcr hrel).symm.trans (h.trans (samePath_written_of_ne v d hcr hrel))

end SamePath

/-- Two states agree on a path and on what decides which requests come and whether they reach the block. -/
structure AgreeOn (p : Path) (s t : State) : Prop where
  path : SamePath p s.chan t.chan
  gateOpen : s.gateOpen = t.gateOpen
  pending : s.pending = t.pending
  draws : s.draws = t.draws

section AgreeOn

variable {p : Path} {s t : State}

/-- Such states take the same request, and agree after taking it. -/
theorem agreeOn_takeRequest (h : AgreeOn p s t) :
    nextRequest s = nextRequest t ∧ AgreeOn p (takeRequest s) (takeRequest t) := by
  obtain ⟨hpath, hgate, hpending, hdraws⟩ := h
  cases ht : t.pending with
  | nil =>
    have hs := hpending.trans ht
    rw [nextRequest_of_pending_nil hs, nextRequest_of_pending_nil ht, takeRequest_of_pending_nil hs,
      takeRequest_of_pending_nil ht, hdraws]
    exact ⟨rfl, hpath, hgate, hpending, rfl⟩
  | cons r rest =>
    have hs := hpending.trans ht
    rw [nextRequest_pending hs, nextRequest_pending ht, takeRequest_pending hs, takeRequest_pending ht]
    exact ⟨rfl, hpath, hgate, rfl, hdraws⟩

/-- A write to a locked register leaves every path alone, whether it is accepted or refused: the two states may be
in different modes. -/
theorem agreeOn_lockedWrite (h : AgreeOn p s t) {q : Reg} (v : Word) (hlocked : isLocked q = true) :
    AgreeOn p (lockedWrite (written q v) s) (lockedWrite (written q v) t) := by
  have hcr : q ≠ crReg p := by rintro rfl; cases p <;> cases hlocked
  have hrel : q ≠ relReg p := by rintro rfl; cases p <;> cases hlocked
  have alone : ∀ u : State, SamePath p u.chan (lockedWrite (written q v) u).chan ∧
      (lockedWrite (written q v) u).gateOpen = u.gateOpen ∧
      (lockedWrite (written q v) u).pending = u.pending ∧ (lockedWrite (written q v) u).draws = u.draws := by
    intro u
    obtain ⟨-, -, hwrite⟩ | ⟨-, -, hwrite⟩ | ⟨-, hwrite⟩ := lockedWrite_cases (written q v) u <;> rw [hwrite]
    · exact ⟨samePath_written_of_ne v u.chan hcr hrel, rfl, rfl, rfl⟩
    · exact ⟨SamePath.refl p u.chan, rfl, rfl, rfl⟩
    · exact ⟨SamePath.refl p u.chan, rfl, rfl, rfl⟩
  obtain ⟨hpathS, hgateS, hpendingS, hdrawsS⟩ := alone s
  obtain ⟨hpathT, hgateT, hpendingT, hdrawsT⟩ := alone t
  exact ⟨hpathS.symm.trans (h.path.trans hpathT), by rw [hgateS, hgateT, h.gateOpen],
    by rw [hpendingS, hpendingT, h.pending], by rw [hdrawsS, hdrawsT, h.draws]⟩

/-- A register write keeps the agreement. -/
theorem agreeOn_writeInstr (h : AgreeOn p s t) (q : Reg) (v : Word) (hopen : t.gateOpen = true) :
    ∃ s' t', exec (q.writeInstr v) s = .next s' ∧ exec (q.writeInstr v) t = .next t' ∧ AgreeOn p s' t' := by
  refine ⟨_, _, exec_writeInstr q v s, exec_writeInstr q v t, ?_⟩
  split
  case isTrue hlocked => exact agreeOn_lockedWrite h v hlocked
  case isFalse =>
    rw [busWrite_open _ hopen, busWrite_open _ (h.gateOpen.trans hopen)]
    exact ⟨samePath_written h.path q v, h.gateOpen, h.pending, h.draws⟩

/-- A transaction word keeps the agreement: refused, lost and read it changes no path. -/
theorem agreeOn_serveWord (h : AgreeOn p s t) (w : TxWord) :
    ∃ s' t', serveWord w s = .next s' ∧ serveWord w t = .next t' ∧ AgreeOn p s' t' := by
  obtain ⟨hpath, hgate, hpending, hdraws⟩ := h
  cases hopen : t.gateOpen with
  | false =>
    refine ⟨_, _, serveWord_closed w (hgate.trans hopen), serveWord_closed w hopen, ?_⟩
    cases w[40] with
    | false => exact ⟨hpath, hgate, hpending, congrArg (· + 1) hdraws⟩
    | true => exact ⟨hpath, hgate, hpending, hdraws⟩
  | true =>
    cases hdecode : decode w with
    | error code =>
      exact ⟨_, _, serveWord_error_open hdecode (hgate.trans hopen), serveWord_error_open hdecode hopen,
        hpath, hgate, hpending, hdraws⟩
    | ok i =>
      rw [serveWord, serveWord, hdecode]
      obtain ⟨q, v, rfl⟩ | ⟨q, rfl⟩ := decode_ok_cases hdecode
      · exact agreeOn_writeInstr ⟨hpath, hgate, hpending, hdraws⟩ q v hopen
      · exact ⟨_, _, exec_readInstr_open q (hgate.trans hopen), exec_readInstr_open q hopen,
          hpath, hgate, hpending, hdraws⟩

/-- Serving one request keeps the agreement. -/
theorem agreeOn_serve (h : AgreeOn p s t) (r : Request) :
    ∃ s' t', serve r s = .next s' ∧ serve r t = .next t' ∧ AgreeOn p s' t' := by
  cases r with
  | bus w => exact agreeOn_serveWord h w
  | clkGate b => exact ⟨_, _, rfl, rfl, h.path, rfl, h.pending, h.draws⟩
  | reset => exact ⟨_, _, rfl, rfl, SamePath.refl p _, h.gateOpen, h.pending, h.draws⟩
  | tick e o y =>
    obtain ⟨hpath, hgate, hpending, hdraws⟩ := h
    cases hopen : t.gateOpen with
    | false =>
      exact ⟨_, _, exec_tick_closed e o y (hgate.trans hopen), exec_tick_closed e o y hopen,
        hpath, hgate, hpending, hdraws⟩
    | true =>
      exact ⟨_, _, exec_tick_open e o y (hgate.trans hopen), exec_tick_open e o y hopen,
        samePath_tick hpath e o y, hgate, hpending, hdraws⟩

end AgreeOn

/-- Settles O47: states that agree on a path take the same request (`agreeOn_takeRequest`), and serving it keeps
the agreement (`agreeOn_serve`). -/
theorem pathsDoNotInteract : Obligations.PathsDoNotInteract := by
  intro p s t s' t' hpath hgate hpending hdraws hs ht
  obtain ⟨hrequest, htaken⟩ := agreeOn_takeRequest ⟨hpath, hgate, hpending, hdraws⟩
  obtain ⟨u, u', hu, hu', hagree⟩ := agreeOn_serve htaken (nextRequest t)
  rw [step_eq, hrequest] at hs
  rw [step_eq] at ht
  obtain rfl : u = s' := Host.Outcome.next.inj (hu.symm.trans hs)
  obtain rfl : u' = t' := Host.Outcome.next.inj (hu'.symm.trans ht)
  exact ⟨hagree.path, hagree.gateOpen, hagree.pending, hagree.draws⟩

end Sys2Proof.Machine
end

section
/-! ## The carrier events over a run of clock edges in RUN mode (R133 to R135) -/

namespace Sys2Proof.Machine

/-- The sum of a phase and a rate step is below two whole periods, so an edge ends as many periods as the sum
holds (R133). -/
theorem evEnd_toNat (c : Channel) : c.evEnd.toNat = (c.phase.toNat + c.rate.toNat % 2 ^ 24) / 2 ^ 24 := by
  have hphase := c.phase.isLt
  cases hend : c.evEnd with
  | true =>
    have hfull := evEnd_iff.mp hend
    rw [Bool.toNat_true]
    omega
  | false =>
    have hpart := mt evEnd_iff.mpr (Bool.eq_false_iff.mp hend)
    rw [Bool.toNat_false]
    omega

/-- Settles O30: an edge ends the whole periods of its sum and hands the remainder on to the rest of the run. -/
theorem carrierEndsCountThePeriods : Obligations.CarrierEndsCountThePeriods := by
  intro c levels hrun
  induction levels generalizing c with
  | nil =>
    have hphase := c.phase.isLt
    rw [Channel.carrierEnds, List.length_nil]
    omega
  | cons l rest ih =>
    have hrest := ih (c.tick l.emgIn l.ovvIn l.syncIn) (by rwa [tick_mden])
    rw [tick_phase_toNat_run _ _ _ hrun, carrierSum_eq, tick_rate] at hrest
    rw [Channel.carrierEnds, hrun, Bool.true_and, evEnd_toNat, hrest, List.length_cons, Nat.succ_mul]
    omega

theorem ticks_rate (c : Channel) (levels : List TickLevels) : (c.ticks levels).rate = c.rate := by
  induction levels generalizing c with
  | nil => rfl
  | cons l rest ih => rw [Channel.ticks, ih, tick_rate]

/-- After a run of edges in RUN mode the accumulator holds the phase travelled, reduced (R133). -/
theorem ticks_phase_toNat {c : Channel} (levels : List TickLevels) (h : c.mden = true) :
    (c.ticks levels).phase.toNat =
      (c.phase.toNat + levels.length * (c.rate.toNat % 2 ^ 24)) % 2 ^ 24 := by
  induction levels generalizing c with
  | nil =>
    have hphase := c.phase.isLt
    rw [Channel.ticks, List.length_nil]
    omega
  | cons l rest ih =>
    have hrest := ih (c := c.tick l.emgIn l.ovvIn l.syncIn) (by rwa [tick_mden])
    rw [Channel.ticks, hrest, tick_phase_toNat_run _ _ _ h, carrierSum_eq, tick_rate, List.length_cons, Nat.succ_mul]
    omega

/-- At `i` rate steps into a period of `n` steps, the next edge ends the period when it is the last one, and passes
half scale when it is the middle one (R135). -/
theorem events_of_phase_eq_mul {c : Channel} {i n : Nat} (heven : n % 2 = 0)
    (hperiod : c.rate.toNat % 2 ^ 24 * n = 2 ^ 24) (hphase : c.phase.toNat = c.rate.toNat % 2 ^ 24 * i) :
    (c.evEnd = true ↔ n ≤ i + 1) ∧ (c.evCtr = true ↔ i < n / 2 ∧ n / 2 ≤ i + 1) := by
  rw [evEnd_iff, evCtr_iff, hphase, ← Nat.mul_succ]
  generalize c.rate.toNat % 2 ^ 24 = r at hperiod ⊢
  have hhalf : r * (n / 2) = 2 ^ 23 := by
    rw [← Nat.mul_div_assoc _ (Nat.dvd_of_mod_eq_zero heven), hperiod]
    rfl
  have hpos : 0 < r := Nat.pos_of_mul_pos_right (hperiod ▸ Nat.two_pow_pos 24)
  rw [← hperiod, ← hhalf]
  simp only [Nat.mul_le_mul_left_iff hpos, Nat.mul_lt_mul_left hpos, and_self]

/-- Where in a period of `n` steps the step after step `j` falls. -/
theorem succ_mod_iff (j : Nat) {n : Nat} (h : 2 ≤ n) :
    ((j + 1) % n = 0 ↔ n ≤ j % n + 1) ∧ ((j + 1) % n = n / 2 ↔ j % n < n / 2 ∧ n / 2 ≤ j % n + 1) := by
  have hlt := Nat.mod_lt j (Nat.zero_lt_of_lt h)
  rw [Nat.add_mod_eq_ite, Nat.mod_eq_of_lt (show 1 < n from h)]
  split <;> omega

/-- Settles O31: before tick `k` the accumulator is `(k - 1) mod n` rate steps into its period. -/
theorem carrierEventsFallWhereStated : Obligations.CarrierEventsFallWhereStated := by
  intro c levels n hrun hzero heven hperiod before k
  have hphase : before.phase.toNat = c.rate.toNat % 2 ^ 24 * (levels.length % n) := by
    rw [ticks_phase_toNat levels hrun, hzero, BitVec.ofNat_eq_ofNat, BitVec.toNat_zero, Nat.zero_add, Nat.mul_comm,
      ← Nat.mul_mod_mul_left, hperiod]
  have htwo : 2 ≤ n := by
    have hne : n ≠ 0 := by
      rintro rfl
      omega
    omega
  rw [← ticks_rate c levels] at hperiod hphase
  obtain ⟨hend, hcentre⟩ := events_of_phase_eq_mul heven hperiod hphase
  obtain ⟨hmultiple, hmiddle⟩ := succ_mod_iff levels.length htwo
  exact ⟨hend.trans hmultiple.symm, hcentre.trans hmiddle.symm⟩

end Sys2Proof.Machine
end

section
/-! ## The carrier shapes as numbers and the duty fraction (R136 to R138) -/

namespace Sys2Proof.Machine

/-- The mirror of a carrier value is its distance from the largest one. -/
theorem mirror_toNat (v : CarrierValue) : (0x7FFF - v).toNat = 0x7FFF - v.toNat := by bv_omega

/-- The two ramps of R136: all but the low 9 bits of the phase, and the next 15 bits below the top one. -/
theorem ramps_toNat (phase : PhaseAcc) :
    (phase.extractLsb' 9 15).toNat = phase.toNat / 2 ^ 9 ∧
      (phase.extractLsb' 8 15).toNat = phase.toNat % 2 ^ 23 / 2 ^ 8 := by
  have hphase := phase.isLt
  simp only [BitVec.extractLsb'_toNat, Nat.shiftRight_eq_div_pow]
  omega

/-- The triangle rises in the first half of the period. -/
theorem rising_iff (phase : PhaseAcc) : (!phase[23]) = true ↔ phase.toNat < 2 ^ 23 := by
  have hphase := phase.isLt
  rw [Bool.not_eq_true', BitVec.getElem_eq_testBit_toNat, Nat.testBit_eq_decide_div_mod_eq,
    decide_eq_false_iff_not]
  omega

theorem carrier_shapes (phase : PhaseAcc) :
    carrier 0b00 phase = phase.extractLsb' 9 15 ∧
    carrier 0b01 phase = (if !phase[23] then phase.extractLsb' 8 15 else 0x7FFF - phase.extractLsb' 8 15) ∧
    carrier 0b10 phase = 0x7FFF - phase.extractLsb' 9 15 ∧
    carrier 0b11 phase = (if !phase[23] then 0x7FFF - phase.extractLsb' 8 15 else phase.extractLsb' 8 15) := by
  simp [carrier]

/-- Settles O28: the shapes are the two ramps and their mirrors. -/
theorem carrierShapesFollowTheirFormulas : Obligations.CarrierShapesFollowTheirFormulas := by
  intro phase n ramp
  obtain ⟨hsawtooth, htriangle, hreverse, hreverseTriangle⟩ := carrier_shapes phase
  obtain ⟨hlong, hshort⟩ := ramps_toNat phase
  rw [hsawtooth, htriangle, hreverse, hreverseTriangle]
  simp only [apply_ite BitVec.toNat, mirror_toNat, hlong, hshort, rising_iff]
  exact ⟨rfl, rfl, rfl, rfl⟩

/-- The comparison of T4 as numbers (R137). -/
theorem below_iff {value : CarrierValue} {duty : Word} {n : Nat} (h : value.toNat = n) :
    below value duty = true ↔ n < duty.toNat := by
  rw [below, decide_eq_true_eq, BitVec.lt_def, BitVec.toNat_setWidth_of_le (by decide), h]

/-! ### Counting the phases of a ramp below a duty -/

theorem count_congr {p q : Nat → Prop} [DecidablePred p] [DecidablePred q] {n : Nat}
    (h : ∀ k < n, p k ↔ q k) : Nat.count p n = Nat.count q n :=
  Nat.le_antisymm (Nat.count_mono_left fun k hk => (h k hk).mp) (Nat.count_mono_left fun k hk => (h k hk).mpr)

/-- A ramp that stays `b` phases at each of the values `0, …, m - 1` in turn is below `d` up to phase `d * b`. -/
theorem count_rising (d m : Nat) {b : Nat} (hb : 0 < b) :
    Nat.count (fun n => n / b < d) (m * b) = min d m * b := by
  have hbelow : {n ∈ Finset.range (m * b) | n / b < d} = Finset.range (min d m * b) := by
    ext n
    rw [Finset.mem_filter, Finset.mem_range, Finset.mem_range, Nat.div_lt_iff_lt_mul hb, ← Nat.mul_min_mul_right,
      Nat.lt_min, and_comm]
  rw [Nat.count_eq_card_filter_range, hbelow, Finset.card_range]

/-- A ramp that falls from `m` to 0, `b` phases at each value, is below `d` from phase `(m + 1 - d) * b` on. -/
theorem count_falling (d m : Nat) {b : Nat} (hb : 0 < b) :
    Nat.count (fun n => m - n / b < d) ((m + 1) * b) = min d (m + 1) * b := by
  have hbelow : {n ∈ Finset.range ((m + 1) * b) | m - n / b < d} =
      Finset.Ico ((m + 1 - d) * b) ((m + 1) * b) := by
    ext n
    rw [Finset.mem_filter, Finset.mem_range, Finset.mem_Ico, ← Nat.div_lt_iff_lt_mul hb,
      ← Nat.le_div_iff_mul_le hb]
    generalize n / b = value
    omega
  rw [Nat.count_eq_card_filter_range, hbelow, Nat.card_Ico, ← Nat.sub_mul]
  congr 1
  omega

/-- The phases of a period are those of its first half and those of its second. -/
theorem count_period {p f g : Nat → Prop} [DecidablePred p] [DecidablePred f] [DecidablePred g]
    (hfirst : ∀ n < 2 ^ 23, p n ↔ f n) (hsecond : ∀ n < 2 ^ 23, p (2 ^ 23 + n) ↔ g n) :
    Nat.count p (2 ^ 24) = Nat.count f (2 ^ 23) + Nat.count g (2 ^ 23) := by
  rw [show 2 ^ 24 = 2 ^ 23 + 2 ^ 23 from rfl, Nat.count_add, count_congr hfirst, count_congr hsecond]

/-- Over the period a sawtooth is one ramp. -/
theorem sawtooth_period {n : Nat} (h : n < 2 ^ 24) :
    (carrier 0b00 (BitVec.ofNat 24 n)).toNat = n / 2 ^ 9 ∧
    (carrier 0b10 (BitVec.ofNat 24 n)).toNat = 0x7FFF - n / 2 ^ 9 := by
  obtain ⟨hsawtooth, -, hreverse, -⟩ := carrierShapesFollowTheirFormulas (BitVec.ofNat 24 n)
  rw [hsawtooth, hreverse, BitVec.toNat_ofNat, Nat.mod_eq_of_lt h]
  exact ⟨rfl, rfl⟩

/-- Over each half of the period a triangle is one ramp. -/
theorem triangle_halves {n : Nat} (h : n < 2 ^ 23) :
    (carrier 0b01 (BitVec.ofNat 24 n)).toNat = n / 2 ^ 8 ∧
    (carrier 0b01 (BitVec.ofNat 24 (2 ^ 23 + n))).toNat = 0x7FFF - n / 2 ^ 8 ∧
    (carrier 0b11 (BitVec.ofNat 24 n)).toNat = 0x7FFF - n / 2 ^ 8 ∧
    (carrier 0b11 (BitVec.ofNat 24 (2 ^ 23 + n))).toNat = n / 2 ^ 8 := by
  obtain ⟨-, hrise, -, hfall⟩ := carrierShapesFollowTheirFormulas (BitVec.ofNat 24 n)
  obtain ⟨-, hrise', -, hfall'⟩ := carrierShapesFollowTheirFormulas (BitVec.ofNat 24 (2 ^ 23 + n))
  have hfirst : (BitVec.ofNat 24 n).toNat = n := Nat.mod_eq_of_lt (by omega)
  have hsecond : (BitVec.ofNat 24 (2 ^ 23 + n)).toNat = 2 ^ 23 + n := Nat.mod_eq_of_lt (by omega)
  have hnot : ¬ 2 ^ 23 + n < 2 ^ 23 := by omega
  rw [hrise, hfall, hrise', hfall', hfirst, hsecond, if_pos h, if_pos h, if_neg hnot, if_neg hnot,
    Nat.add_mod_left, Nat.mod_eq_of_lt h]
  exact ⟨rfl, rfl, rfl, rfl⟩

/-- Settles O29: a sawtooth is one ramp of `2^9` phases a value, a triangle two ramps of `2^8`, in either order. -/
theorem dutyFractionIsExact : Obligations.DutyFractionIsExact := by
  intro shape d
  rw [← Nat.count_eq_card_filter_range]
  have hrise (k : Nat) := count_rising d.toNat 0x8000 (Nat.two_pow_pos k)
  have hfall (k : Nat) := count_falling d.toNat 0x7FFF (Nat.two_pow_pos k)
  have halves {i j : Nat} (hi : i = min d.toNat 0x8000 * 2 ^ 8) (hj : j = min d.toNat 0x8000 * 2 ^ 8) :
      i + j = min d.toNat 0x8000 * 2 ^ 9 := by omega
  obtain rfl | rfl | rfl | rfl : shape = 0b00 ∨ shape = 0b01 ∨ shape = 0b10 ∨ shape = 0b11 := by
    revert shape; decide
  · refine Eq.trans (count_congr fun n hn => ?_) (hrise 9)
    obtain ⟨hvalue, -⟩ := sawtooth_period hn
    exact below_iff hvalue
  · refine (count_period (fun n hn => ?_) fun n hn => ?_).trans (halves (hrise 8) (hfall 8))
    all_goals obtain ⟨hfirst, hsecond, -, -⟩ := triangle_halves hn
    · exact below_iff hfirst
    · exact below_iff hsecond
  · refine Eq.trans (count_congr fun n hn => ?_) (hfall 9)
    obtain ⟨-, hvalue⟩ := sawtooth_period hn
    exact below_iff hvalue
  · refine (count_period (fun n hn => ?_) fun n hn => ?_).trans (halves (hfall 8) (hrise 8))
    all_goals obtain ⟨-, -, hfirst, hsecond⟩ := triangle_halves hn
    · exact below_iff hfirst
    · exact below_iff hsecond

end Sys2Proof.Machine
end

section
/-! ## The duty latches and the dead-time units over one clock edge (R137, R139 to R141, R154, R155) -/

namespace Sys2Proof.Machine

/-- T3 of a clock edge in RUN mode, at the events of the carrier before the edge (R140). -/
theorem tick_cmpa_of_run {c : Channel} (e o : Bool) (y : SyncLevels) (h : c.mden = true) :
    (c.tick e o y).cmpa = if sel c.dsyncs c.evCtr c.evEnd then c.cmpb else c.cmpa := by
  rw [tick_cmpa_run c e o y h]
  rfl

/-- Settles O23: the selector (`sel_iff`) at the carrier events of the edge, in the two modes. -/
theorem tickLoadsTheDutyLatches : Obligations.TickLoadsTheDutyLatches := by
  intro e o y s hopen
  refine ⟨_, exec_tick_open e o y hopen, ?_⟩
  intro sum finish centre event
  have hevent : sel s.chan.dsyncs s.chan.evCtr s.chan.evEnd = true ↔ event := by
    rw [sel_iff, evCtr_iff, evEnd_iff]
  rw [quietly_chan]
  cases hmode : s.chan.mden with
  | false => simp [tick_cmpa_config s.chan e o y hmode]
  | true =>
    rw [tick_cmpa_of_run e o y hmode, ← hevent]
    exact ⟨fun ⟨_, hselected⟩ => if_pos hselected,
      fun hnot => if_neg fun hselected => hnot ⟨rfl, hselected⟩⟩

/-- The comparator as numbers (R137). -/
theorem rawPwm_iff (c : Channel) (x : Phase) : c.rawPwm x = true ↔
    (carrier (c.car.get x) c.phase).toNat < (if c.dtymd then c.cmpa.get x else c.cmpa.u).toNat := by
  rw [Channel.rawPwm, below_iff rfl, Channel.duty]

/-- The comparator reads the phase and the duties T2 and T3 leave, which the rest of the edge keeps (R150). -/
theorem tick_rawPwm_of_run {c : Channel} (e o : Bool) (y : SyncLevels) (x : Phase) (h : c.mden = true) :
    (c.tick e o y).rawPwm x = (c.t2.t3 c.evCtr c.evEnd).rawPwm x := by
  simp only [Channel.rawPwm, Channel.duty, tick_phase_run c e o y h, tick_cmpa_run c e o y h, tick_car, tick_dtymd]
  rfl

/-- T5 of a clock edge in RUN mode, for one phase (R154, R155). -/
theorem tick_unit_of_run {c : Channel} (e o : Bool) (y : SyncLevels) (x : Phase) (h : c.mden = true) :
    (c.tick e o y).hold.get x = stretchHold c.dtcren ((c.tick e o y).rawPwm x) c.dtr (c.hold.get x) ∧
      (c.tick e o y).side.get x = stretched c.dtcren ((c.tick e o y).rawPwm x) (c.hold.get x) ∧
      (c.tick e o y).cnt.get x =
        insertCount ((c.tick e o y).side.get x) (c.side.get x) c.dtr (c.cnt.get x) := by
  rw [tick_rawPwm_of_run e o y x h, tick_hold_run c e o y h, tick_side_run c e o y h, tick_cnt_run c e o y h]
  simp [Channel.runSteps]

/-- The stretcher with correction: the raw PWM restarts it, it runs down after, and stops at 0; without correction
it passes the raw PWM on (R154). -/
theorem stretcher_cases (dtr hold : Word) :
    (stretchHold true true dtr hold = dtr ∧ stretched true true hold = true) ∧
    (hold ≠ 0 → stretchHold true false dtr hold = hold - 1 ∧ stretched true false hold = true) ∧
    (hold = 0 → stretchHold true false dtr hold = 0 ∧ stretched true false hold = false) ∧
    (∀ raw, stretchHold false raw dtr hold = 0 ∧ stretched false raw hold = raw) := by
  refine ⟨⟨rfl, rfl⟩, fun hne => ⟨if_pos hne, decide_eq_true hne⟩, ?_, fun raw => ⟨rfl, rfl⟩⟩
  rintro rfl
  exact ⟨rfl, rfl⟩

/-- The inserter: a change of side restarts the dead time, which otherwise runs down and stops at 0 (R155). -/
theorem inserter_cases (s side : Bool) (dtr cnt : Word) :
    (s ≠ side → insertCount s side dtr cnt = dtr) ∧
    (s = side → cnt ≠ 0 → insertCount s side dtr cnt = cnt - 1) ∧
    (s = side → cnt = 0 → insertCount s side dtr cnt = 0) := by
  refine ⟨fun hmoved => if_pos hmoved, fun hsame hne => ?_, fun hsame hzero => ?_⟩
  · rw [insertCount, if_neg (not_not.mpr hsame), if_pos hne]
  · rw [insertCount, if_neg (not_not.mpr hsame), if_neg (not_not.mpr hzero), hzero]

/-- Settles O24: the clauses are the cases of the stretcher and of the inserter, at the raw PWM of the edge. -/
theorem tickRunsTheDeadTimeUnit : Obligations.TickRunsTheDeadTimeUnit := by
  intro e o y s hopen
  refine ⟨_, exec_tick_open e o y hopen, fun hconfig => ?config, fun hrun x => ?run⟩
  case config =>
    exact ⟨tick_hold_config _ e o y hconfig, tick_side_config _ e o y hconfig, tick_cnt_config _ e o y hconfig⟩
  case run =>
    intro duty raw hold hold' side side' cnt cnt'
    have hraw : (s.chan.tick e o y).rawPwm x = true ↔ raw := by
      rw [rawPwm_iff, tick_car, tick_dtymd]
      rfl
    obtain ⟨hhold, hside, hcnt⟩ := tick_unit_of_run e o y x hrun
    obtain ⟨hrestart, hdown, hstop⟩ := inserter_cases side' side s.chan.dtr cnt
    obtain ⟨⟨hloaded, hon⟩, htail, hidle, hplain⟩ := stretcher_cases s.chan.dtr hold
    refine ⟨fun hcorr h => ?high, fun hcorr h => ?tail, fun hcorr h => ?idle, fun hcorr => ?plain,
      fun h => hcnt.trans (hrestart h), fun h hne => hcnt.trans (hdown h hne),
      fun h hzero => hcnt.trans (hstop h hzero)⟩
    all_goals rw [hcorr] at hhold hside
    case high =>
      rw [hraw.mpr h] at hhold hside
      exact ⟨hhold.trans hloaded, hside.trans hon⟩
    case tail =>
      rw [Bool.eq_false_iff.mpr (mt hraw.mp h)] at hhold hside
      exact fun hne => (htail hne).imp hhold.trans hside.trans
    case idle =>
      rw [Bool.eq_false_iff.mpr (mt hraw.mp h)] at hhold hside
      exact fun hzero => (hidle hzero).imp hhold.trans hside.trans
    case plain =>
      obtain ⟨hcleared, hpassed⟩ := hplain ((s.chan.tick e o y).rawPwm x)
      exact ⟨hhold.trans hcleared, (Bool.eq_iff_iff.mp (hside.trans hpassed)).trans hraw⟩

end Sys2Proof.Machine
end

section
/-! ## The rate and duty registers: RATE, CMPU, CMPV and CMPW (R130 to R132, R142 to R147) -/

namespace Sys2Proof.Machine

/-- Settles O13: none of the four registers is under the configuration lock. -/
theorem rateAndDutyWritesStoreTheirWord : Obligations.RateAndDutyWritesStoreTheirWord := by
  intro d s hopen
  have accepted (r : Reg) (hunlocked : isLocked r = false) :
      exec (r.writeInstr d) s = .next (s.accepted (written r d s.chan)) :=
    exec_writeInstr_unlocked d hopen hunlocked
  exact ⟨accepted .rate rfl, accepted .cmpu rfl, accepted .cmpv rfl, accepted .cmpw rfl⟩

/-- In either mode a read of RATE after a write returns the whole word (R130, R131). -/
theorem exec_rdRate_after_wrRate {s t : State} (v : Word) (hopen : s.gateOpen = true)
    (h : exec (.wrRate v) s = .next t) : exec .rdRate t = .next { t with response := .okayData v } := by
  rw [show exec (.wrRate v) s = .next (s.accepted (s.chan.storeRate v)) from
    exec_writeInstr_unlocked (r := .rate) v hopen rfl] at h
  cases h
  exact exec_readInstr_open .rate (s := s.accepted _) hopen

/-- Settles O14: the encoding is that of a word access (`decode_append`), the words are those of the registers, and
the examples are a read after a write and a read after `RESET`. -/
theorem rateAndDutyReadsReturnTheBuffer : Obligations.RateAndDutyReadsReturnTheBuffer := by
  refine ⟨fun data => ?encoding, fun s hopen => ?words, fun s t hopen => ⟨fun d => ?afterWrite, ?afterReset⟩⟩
  case encoding =>
    exact ⟨decode_append .rate false data, decode_append .cmpu false data, decode_append .cmpv false data,
      decode_append .cmpw false data⟩
  case words =>
    have returned (r : Reg) : exec r.readInstr s = .next (s.returning (s.chan.regWord r)) :=
      exec_readInstr_open r hopen
    exact ⟨returned .rate, returned .cmpu, returned .cmpv, returned .cmpw⟩
  case afterWrite => exact exec_rdRate_after_wrRate d hopen
  case afterReset => exact exec_readInstr_after_reset .cmpu hopen

end Sys2Proof.Machine
end

section
/-! ## The commands of a phase, the output mux and the pins (R156, R158 to R161) -/

namespace Sys2Proof.Machine

/-- The plain command is on when the plain side is commanded and no dead time runs (R156). -/
theorem plainOn_iff {c : Channel} {x : Phase} :
    c.plainOn x = true ↔ c.cnt.get x = 0 ∧ c.side.get x = true := by
  simp [Channel.plainOn, and_comm]

/-- The complementary command is on when the complementary side is commanded and no dead time runs (R156). -/
theorem compOn_iff {c : Channel} {x : Phase} :
    c.compOn x = true ↔ c.cnt.get x = 0 ∧ c.side.get x = false := by
  simp [Channel.compOn, and_comm]

/-- The command a pin group takes under the mode bit `m` is on when no dead time runs on the side `m` selects
(R158). -/
theorem muxed_iff (c : Channel) (x : Phase) (m : Bool) :
    (if m then c.compOn x else c.plainOn x) = true ↔ c.cnt.get x = 0 ∧ c.side.get x = !m := by
  cases m with
  | false => exact plainOn_iff
  | true => exact compOn_iff

/-- A switch is on when the channel is enabled, its group not forced off and the command of its group on (R158,
R159). -/
theorem switchOn_iff (c : Channel) (x : Phase) (m forcedOff : Bool) :
    (c.mden && (if m then c.compOn x else c.plainOn x) && !forcedOff) = true ↔
      c.mden = true ∧ forcedOff = false ∧ c.cnt.get x = 0 ∧ c.side.get x = !m := by
  rw [← muxed_iff, Bool.and_right_comm, Bool.and_eq_true, Bool.and_eq_true, Bool.not_eq_true', and_assoc]

theorem upperOn_iff {c : Channel} {x : Phase} : c.upperOn x = true ↔
    c.mden = true ∧ c.pgateU = false ∧ c.cnt.get x = 0 ∧ c.side.get x = !c.upmd :=
  switchOn_iff c x c.upmd c.pgateU

theorem lowerOn_iff {c : Channel} {x : Phase} : c.lowerOn x = true ↔
    c.mden = true ∧ c.pgateL = false ∧ c.cnt.get x = 0 ∧ c.side.get x = !c.lomd :=
  switchOn_iff c x c.lomd c.pgateL

/-- A pin is at its active level, which is its polarity bit, exactly when its switch is on (R160, R161). -/
theorem level_eq_polarity_iff (pol on : Bool) : (if pol then on else !on) = pol ↔ on = true := by
  cases pol <;> simp

theorem upperPin_active_iff (c : Channel) (x : Phase) : c.upperPin x = c.polh ↔ c.upperOn x = true :=
  level_eq_polarity_iff c.polh (c.upperOn x)

theorem lowerPin_active_iff (c : Channel) (x : Phase) : c.lowerPin x = c.poll ↔ c.lowerOn x = true :=
  level_eq_polarity_iff c.poll (c.lowerOn x)

/-- Settles O33: a pin is active when its switch is on (`upperPin_active_iff`, `lowerPin_active_iff`), and when that
is, `upperOn_iff` and `lowerOn_iff` say. -/
theorem outputsFollowMuxGateAndPolarity : Obligations.OutputsFollowMuxGateAndPolarity := by
  intro c upper lower
  have hupper (x : Phase) : c.upperPin x = c.polh ↔ upper x := (upperPin_active_iff c x).trans upperOn_iff
  have hlower (x : Phase) : c.lowerPin x = c.poll ↔ lower x := (lowerPin_active_iff c x).trans lowerOn_iff
  exact ⟨hupper .u, hupper .v, hupper .w, hlower .u, hlower .v, hlower .w⟩

/-- Settles O32: each command, and each switch, that is on fixes the commanded side. -/
theorem noShootThrough : Obligations.NoShootThrough := by
  refine fun c x => ⟨fun ⟨hplain, hcomp⟩ => ?commands, fun hmodes ⟨hupper, hlower⟩ => ?switches⟩
  case commands =>
    obtain ⟨-, hside⟩ := plainOn_iff.mp hplain
    obtain ⟨-, hside'⟩ := compOn_iff.mp hcomp
    exact Bool.false_ne_true (hside'.symm.trans hside)
  case switches =>
    obtain ⟨-, -, -, hside⟩ := upperOn_iff.mp hupper
    obtain ⟨-, -, -, hside'⟩ := lowerOn_iff.mp hlower
    exact hmodes (Bool.not_inj (hside.symm.trans hside'))

end Sys2Proof.Machine
end

section
/-! ## Dead time between the two commands, and the stretch of the correction (R153 to R156) -/

namespace Sys2Proof.Machine

/-- A clock edge of either mode that changes the commanded side restarts the dead time (R155). -/
theorem tick_side_or_restart (c : Channel) (e o : Bool) (y : SyncLevels) (x : Phase) :
    (c.tick e o y).side.get x = c.side.get x ∨ (c.tick e o y).cnt.get x = c.dtr := by
  cases hmode : c.mden with
  | false => exact .inl (by rw [tick_side_config c e o y hmode])
  | true =>
    obtain ⟨-, -, hcnt⟩ := tick_unit_of_run e o y x hmode
    obtain ⟨hrestart, -, -⟩ := inserter_cases ((c.tick e o y).side.get x) (c.side.get x) c.dtr (c.cnt.get x)
    exact or_iff_not_imp_left.mpr fun hmoved => hcnt.trans (hrestart hmoved)

/-- A run of edges that ends on the other side has spent one edge on the change, and what is left of `DTR` after the
edges since then is still to be counted down. -/
theorem ticks_side_or_waits (c : Channel) (x : Phase) (levels : List TickLevels) :
    (c.ticks levels).side.get x = c.side.get x ∨
      c.dtr.toNat + 1 ≤ ((c.ticks levels).cnt.get x).toNat + levels.length := by
  induction levels generalizing c with
  | nil => exact .inl rfl
  | cons l rest ih =>
    rw [Channel.ticks, List.length_cons]
    obtain hsame | hrestart := tick_side_or_restart c l.emgIn l.ovvIn l.syncIn x
    · have hrest := ih (c.tick l.emgIn l.ovvIn l.syncIn)
      rw [hsame, tick_dtr] at hrest
      exact hrest.imp_right fun hwaits => by omega
    · have hleft := dtr_le_cnt_ticks (c := c.tick l.emgIn l.ovvIn l.syncIn) (x := x) (k := 0) rest
        (Nat.le_of_eq (by rw [tick_dtr, hrestart]; rfl))
      rw [tick_dtr] at hleft
      exact .inr (by omega)

/-- A run that ends on the other side with the dead time over has at least `DTR + 1` edges. -/
theorem dtr_lt_length_of_side_ne {c : Channel} {x : Phase} {levels : List TickLevels}
    (hside : (c.ticks levels).side.get x ≠ c.side.get x) (hcnt : (c.ticks levels).cnt.get x = 0) :
    c.dtr.toNat + 1 ≤ levels.length := by
  have hwaits := (ticks_side_or_waits c x levels).resolve_left hside
  have hover : ((c.ticks levels).cnt.get x).toNat = 0 := congrArg BitVec.toNat hcnt
  omega

/-- Settles O34: the two commands stand for the two sides, and each is on only with the dead time over. -/
theorem deadTimeSeparatesTheCommands : Obligations.DeadTimeSeparatesTheCommands := by
  intro c x levels _
  refine ⟨fun hplain hcomp => ?toComplementary, fun hcomp hplain => ?toPlain⟩
  all_goals
    obtain ⟨hplainCnt, hplainSide⟩ := plainOn_iff.mp hplain
    obtain ⟨hcompCnt, hcompSide⟩ := compOn_iff.mp hcomp
  case toComplementary =>
    exact dtr_lt_length_of_side_ne (by simp [hplainSide, hcompSide]) hcompCnt
  case toPlain =>
    exact dtr_lt_length_of_side_ne (by simp [hplainSide, hcompSide]) hplainCnt

/-- With correction, a tick with the raw PWM at 0 lowers the stretch count by 1, not below 0 (R154). -/
theorem stretchHold_low_toNat (dtr hold : Word) :
    (stretchHold true false dtr hold).toNat = hold.toNat - 1 := by
  obtain ⟨-, hdown, hstop, -⟩ := stretcher_cases dtr hold
  by_cases hzero : hold = 0
  · obtain ⟨hheld, -⟩ := hstop hzero
    rw [hheld, hzero]
    rfl
  · obtain ⟨hlowered, -⟩ := hdown hzero
    rw [hlowered]
    bv_omega

theorem stretchHold_low_iterate_toNat (dtr hold : Word) (n : Nat) :
    ((stretchHold true false dtr)^[n] hold).toNat = hold.toNat - n := by
  induction n with
  | zero => rfl
  | succ n ih => rw [Function.iterate_succ_apply', stretchHold_low_toNat, ih, Nat.sub_sub]

/-- With correction, a tick with the raw PWM at 0 is stretched as long as the count is not 0 (R154). -/
theorem stretched_low (hold : Word) : stretched true false hold = decide (0 < hold.toNat) := by
  rw [stretched, if_pos rfl, Bool.false_or, decide_eq_decide]
  bv_omega

/-- Settles O36: the tick with the raw PWM at 1 loads `DTR`, and each later one takes 1 off it. -/
theorem correctionStretchesByDtrTicks : Obligations.CorrectionStretchesByDtrTicks := by
  intro dtr hold n
  obtain ⟨⟨hloaded, -⟩, -⟩ := stretcher_cases dtr hold
  rw [stretched_low, stretchHold_low_iterate_toNat, hloaded, decide_eq_decide]
  exact Nat.sub_pos_iff_lt

end Sys2Proof.Machine
end

section
/-! ## Every step is answered, and what a clock edge never changes (R150, R151, R170, R190) -/

namespace Sys2Proof.Machine

/-- Settles O7: the four kinds of instruction (`instr_cases`) each have their answer, and so has every request
(`serve_next`). -/
theorem everyStepIsAnswered : Obligations.EveryStepIsAnswered := by
  refine ⟨fun i s => ?instruction, fun s => ?step⟩
  case instruction =>
    obtain ⟨r, v, rfl⟩ | ⟨r, rfl⟩ | ⟨e, o, y, rfl⟩ | rfl := instr_cases i
    · exact ⟨_, exec_writeInstr r v s⟩
    · exact ⟨_, exec_readInstr r s⟩
    · exact ⟨_, rfl⟩
    · exact ⟨_, exec_reset s⟩
  case step =>
    obtain ⟨t, hserved, -⟩ := serve_next (nextRequest s) (takeRequest s)
    exact ⟨t, (step_eq s).trans hserved⟩

/-- Settles O26: with the gate open the edge leaves `Channel.tick` and no response; a `TICK` keeps each bus-writable
field, and only sets latches. -/
theorem tickLeavesTheConfigurationAlone : Obligations.TickLeavesTheConfigurationAlone := by
  intro e o y s hopen
  exact ⟨_, exec_tick_open e o y hopen, sameLocked_tick s.chan e o y, tick_mden .., tick_rate .., tick_cmpb ..,
    tick_pen .., tick_inpol .., tick_resp .., tick_filt .., tick_keyst ..,
    fun _ => tick_latch_get_of_set e o y, rfl, rfl, rfl, rfl⟩

end Sys2Proof.Machine
end

section
/-! ## The errors of a bus operation and their numbers (R170 to R174) -/

namespace Sys2Proof.Machine

theorem serve_bus (t : TxWord) (s : State) : serve (.bus t) s = serveWord t s := rfl

/-- With the gate open a next request that is no operation on a register is taken and answered with its error;
every state element stays as it is (R74, R170). -/
theorem step_of_decode_error {s : State} {t : TxWord} {rest : List Request} {code : BusError}
    (hpending : s.pending = .bus t :: rest) (hopen : s.gateOpen = true) (hdecode : decode t = .error code) :
    step s = .next { s with pending := rest, response := .error code } := by
  rw [step_eq, nextRequest_pending hpending, takeRequest_pending hpending, serve_bus]
  exact serveWord_error_open hdecode hopen

/-- Settles O53: the words named are those that decode to `BADACCESS` and to `UNMAPPED` (`decode_badAccess`,
`decode_unmapped`). -/
theorem illegalOperationsRaiseTheirError : Obligations.IllegalOperationsRaiseTheirError := by
  intro s t rest hpending hopen sz off
  exact ⟨fun hbad => step_of_decode_error hpending hopen (decode_badAccess hbad),
    fun hsz halign hoff => step_of_decode_error hpending hopen (decode_unmapped hsz halign hoff)⟩

/-! ### The number of each response -/

/-- The locked registers by their offsets (R62, R81). -/
theorem isLocked_iff_offset {r : Reg} : isLocked r = true ↔ r.offset.toNat ∈ [0x04, 0x08, 0x0C, 0x10] := by
  cases r <;> decide

/-- A write is answered `LOCKED` by the configuration lock and `OKAY` otherwise (R72 steps 3 and 4, R171). -/
theorem exec_writeInstr_number (r : Reg) (v : Word) {s : State} (hopen : s.gateOpen = true) :
    ∃ u, exec (r.writeInstr v) s = .next u ∧
      u.response.number = some (if isLocked r = true ∧ s.chan.mden = true then 3 else 0) := by
  by_cases hrefused : isLocked r = true ∧ s.chan.mden = true
  · obtain ⟨hlocked, hrun⟩ := hrefused
    rw [if_pos ⟨hlocked, hrun⟩]
    exact ⟨_, exec_writeInstr_locked v hopen hlocked hrun, rfl⟩
  · have hconfig : isLocked r = true → s.chan.mden = false := fun hlocked =>
      Bool.eq_false_iff.mpr fun hrun => hrefused ⟨hlocked, hrun⟩
    rw [if_neg hrefused]
    exact ⟨_, exec_writeInstr_open v hopen hconfig, rfl⟩

/-- The number of the response to a word access to a register, in the direction of its bit 40. -/
theorem serveWord_busOp_number {t : TxWord} {r : Reg} {v : Word} {s : State} (hopen : s.gateOpen = true)
    (hop : BusOp.ofWord t = r.busOp t[40] v) :
    ∃ u, serveWord t s = .next u ∧ u.response.number = some
      (if t[40] = true ∧ isLocked r = true ∧ s.chan.mden = true then 3 else 0) := by
  have hdecode : decode t = .ok (if t[40] then r.writeInstr v else r.readInstr) := by
    rw [decode, hop, decodeBus_busOp]
  rw [serveWord, hdecode]
  cases t[40] with
  | true => simpa using exec_writeInstr_number r v hopen
  | false => exact ⟨_, exec_readInstr_open r hopen, by simp⟩

/-- Settles O54: the three tests in their order of priority; a word that passes the first two is an access to the
register at its offset (`ofWord_eq_busOp`), and the lock decides (`serveWord_busOp_number`). -/
theorem errorResponsesCarryTheirNumber : Obligations.ErrorResponsesCarryTheirNumber := by
  intro s t hopen sz off
  rw [serve_bus]
  by_cases hbad : sz ≠ 0b10#2 ∨ off % 4 ≠ 0
  · rw [if_pos hbad]
    exact ⟨_, serveWord_error_open (decode_badAccess hbad) hopen, rfl⟩
  rw [if_neg hbad]
  obtain ⟨hsz, halign⟩ : sz = 0b10#2 ∧ off % 4 = 0 := by simpa using hbad
  by_cases hunmapped : 0x38 < off
  · rw [if_pos hunmapped]
    exact ⟨_, serveWord_error_open (decode_unmapped hsz halign hunmapped) hopen, rfl⟩
  rw [if_neg hunmapped]
  obtain ⟨r, hop⟩ := ofWord_eq_busOp hsz halign (not_lt.mp hunmapped)
  have hoff : off = r.offset.toNat := congrArg (fun op => op.off.toNat) hop
  simp only [hoff, ← isLocked_iff_offset]
  exact serveWord_busOp_number hopen hop

end Sys2Proof.Machine
end

section
/-! ## What software finds after `RESET` (R191) -/

namespace Sys2Proof.Machine

/-- The status word is the latch as a number (R70). -/
theorem staWord_eq_ite (c : Channel) (p : Path) : c.staWord p = if c.latch.get p then 1 else 0 := by
  rw [Channel.staWord]
  cases c.latch.get p <;> rfl

/-- The status registers are the only ones whose word after `RESET` the platform chooses (R6, R193). -/
theorem staWord_reset (f : Path → Bool) (p : Path) : (Channel.reset f).staWord p = if f p then 1 else 0 := by
  rw [staWord_eq_ite, reset_latch_get]

theorem mode_reset (f : Path → Bool) : (Channel.reset f).mode = .config := rfl

/-- The outputs are inactive because the mode is CONFIG, and both pin groups are active-low (R30, R160). -/
theorem pins_reset (f : Path → Bool) : (Channel.reset f).pins = ⟨true, true, true, true, true, true⟩ :=
  pins_config (reset_mden f)

theorem chan_of_exec_reset {s t : State} (h : exec .reset s = .next t) :
    t.chan = Channel.reset Config.latchRst := by
  rw [exec_reset] at h
  cases h
  rfl

/-- Settles O6: each read returns its register's word of the reset table (`exec_readInstr_after_reset`); only the two
status words depend on `LATCH_RST` (`staWord_reset`). -/
theorem blockAsSoftwareFindsItAfterReset : Obligations.BlockAsSoftwareFindsItAfterReset := by
  intro s t hopen hreset
  refine ⟨fun r => ⟨_, exec_readInstr_after_reset r hopen hreset, ?word⟩, ?mode, ?outputs⟩
  case word =>
    cases r with
    | emgsta => exact staWord_reset Config.latchRst .emg
    | ovvsta => exact staWord_reset Config.latchRst .ovv
    | _ => rfl
  case mode => rw [chan_of_exec_reset hreset, mode_reset]
  case outputs => rw [State.pins, chan_of_exec_reset hreset, pins_reset]

end Sys2Proof.Machine
end
